-- ==== Sys2Proof/Word.lean ====
section
/-! DEFINITION. Words and octets, and the plainest arithmetic on them (00_scope.md R9, R10).
Every quantity of the engine is unsigned; addition wraps and sets no flag. -/

namespace Sys2Proof

/-- A 32-bit word: A, B, C, D, a, b, c, d, message words, round constants (R8 WORD_BITS). -/
abbrev Word := BitVec 32

/-- An octet, 8 bits (R9). -/
abbrev Byte := BitVec 8

/-- `add32(x, y)`: (x + y) mod 2^32 (R10). -/
abbrev add32 (x y : Word) : Word := x + y

/-- `and32`, `or32`, `xor32`, `not32`: bitwise on 32 bits (R10). -/
abbrev and32 (x y : Word) : Word := x &&& y
abbrev or32 (x y : Word) : Word := x ||| y
abbrev xor32 (x y : Word) : Word := x ^^^ y
abbrev not32 (x : Word) : Word := ~~~x

/-- `add64(x, y)`: (x + y) mod 2^64 (R10). -/
abbrev add64 (x y : BitVec 64) : BitVec 64 := x + y

/-- Four words in the order A, B, C, D: the chaining registers H[0..3] (10_state.md R21) and the
working registers (a, b, c, d) (R22). -/
structure Quad where
  a : Word
  b : Word
  c : Word
  d : Word
deriving DecidableEq, Repr

end Sys2Proof
end

