-- ==== Sys2Proof/Config.lean ====
section
/-! DEFINITION. What an implementation fixes and the spec leaves open (00_scope.md R8, rows marked
OPEN), and the free value of `digest_o` while no Digest exists. None has a body: nothing can be
proved of their values. -/

namespace Sys2Proof.Config

/-- T_CMD is any finite positive number of cycles; this is that number less one (R8, R247, D17).
No rule reads it. -/
opaque tCmdLessOne : Nat

/-- T_STEP is any finite positive number of cycles; this is that number less one (R8, R247, D17).
No rule reads it. -/
opaque tStepLessOne : Nat

/-- T_CMD: cycles from acceptance of a command to its response (R8). -/
def tCmd : Nat := tCmdLessOne + 1

/-- T_STEP: cycles per compression step (R8). -/
def tStep : Nat := tStepLessOne + 1

/-- RESET_STYLE, first part: is `rst` active at level 1 (R8, R240, D18)? No rule reads it. -/
opaque resetActiveHigh : Bool

/-- RESET_STYLE, second part: is `rst` sampled by `clk` (R8, R240, D18)? No rule reads it. -/
opaque resetSynchronous : Bool

/-- The value of `digest_o` while FIN = 0, "any value, drawn anew at each read" (93 U5; 44 R205):
the value of draw number `n`. DESIGN CHOICE of the form only (log 6): a constant without a body. -/
opaque freeDigest (n : Nat) : BitVec 128

end Sys2Proof.Config
end

