-- ==== Sys2Proof/Syntax.lean ====
section
/-! DEFINITION. The instructions: the four commands of the command port and the 64 compression steps,
one constructor per row of spec/opcode_table.json. Bits a command ignores (30_encoding.md R73) are kept
as operands, so that no bit of a command word is lost; the meanings do not read them. -/

namespace Sys2Proof

/-- The rows of the opcode table. -/
inductive Instr where
  /-- INIT (44 R201); `data` is `cmd[7:0]`, ignored. -/
  | init (data : BitVec 8)
  /-- UPDATE x (43 R190); `x` is `cmd[7:0]`, the message octet. -/
  | update (x : BitVec 8)
  /-- FINAL (44 R202); `data` is `cmd[7:0]`, ignored. -/
  | final (data : BitVec 8)
  /-- READ k (44 R204); `ign` is `cmd[7:4]`, ignored, and `k` is `cmd[3:0]`. -/
  | read (ign : BitVec 4) (k : BitVec 4)
  /-- STEP0: round 1, position 0 (41 R110). -/
  | step0
  /-- STEP1: round 1, position 1 (41 R111). -/
  | step1
  /-- STEP2: round 1, position 2 (41 R112). -/
  | step2
  /-- STEP3: round 1, position 3 (41 R113). -/
  | step3
  /-- STEP4: round 1, position 4 (41 R114). -/
  | step4
  /-- STEP5: round 1, position 5 (41 R115). -/
  | step5
  /-- STEP6: round 1, position 6 (41 R116). -/
  | step6
  /-- STEP7: round 1, position 7 (41 R117). -/
  | step7
  /-- STEP8: round 1, position 8 (41 R118). -/
  | step8
  /-- STEP9: round 1, position 9 (41 R119). -/
  | step9
  /-- STEP10: round 1, position 10 (41 R120). -/
  | step10
  /-- STEP11: round 1, position 11 (41 R121). -/
  | step11
  /-- STEP12: round 1, position 12 (41 R122). -/
  | step12
  /-- STEP13: round 1, position 13 (41 R123). -/
  | step13
  /-- STEP14: round 1, position 14 (41 R124). -/
  | step14
  /-- STEP15: round 1, position 15 (41 R125). -/
  | step15
  /-- STEP16: round 2, position 0 (41 R126). -/
  | step16
  /-- STEP17: round 2, position 1 (41 R127). -/
  | step17
  /-- STEP18: round 2, position 2 (41 R128). -/
  | step18
  /-- STEP19: round 2, position 3 (41 R129). -/
  | step19
  /-- STEP20: round 2, position 4 (41 R130). -/
  | step20
  /-- STEP21: round 2, position 5 (41 R131). -/
  | step21
  /-- STEP22: round 2, position 6 (41 R132). -/
  | step22
  /-- STEP23: round 2, position 7 (41 R133). -/
  | step23
  /-- STEP24: round 2, position 8 (41 R134). -/
  | step24
  /-- STEP25: round 2, position 9 (41 R135). -/
  | step25
  /-- STEP26: round 2, position 10 (41 R136). -/
  | step26
  /-- STEP27: round 2, position 11 (41 R137). -/
  | step27
  /-- STEP28: round 2, position 12 (41 R138). -/
  | step28
  /-- STEP29: round 2, position 13 (41 R139). -/
  | step29
  /-- STEP30: round 2, position 14 (41 R140). -/
  | step30
  /-- STEP31: round 2, position 15 (41 R141). -/
  | step31
  /-- STEP32: round 3, position 0 (41 R142). -/
  | step32
  /-- STEP33: round 3, position 1 (41 R143). -/
  | step33
  /-- STEP34: round 3, position 2 (41 R144). -/
  | step34
  /-- STEP35: round 3, position 3 (41 R145). -/
  | step35
  /-- STEP36: round 3, position 4 (41 R146). -/
  | step36
  /-- STEP37: round 3, position 5 (41 R147). -/
  | step37
  /-- STEP38: round 3, position 6 (41 R148). -/
  | step38
  /-- STEP39: round 3, position 7 (41 R149). -/
  | step39
  /-- STEP40: round 3, position 8 (41 R150). -/
  | step40
  /-- STEP41: round 3, position 9 (41 R151). -/
  | step41
  /-- STEP42: round 3, position 10 (41 R152). -/
  | step42
  /-- STEP43: round 3, position 11 (41 R153). -/
  | step43
  /-- STEP44: round 3, position 12 (41 R154). -/
  | step44
  /-- STEP45: round 3, position 13 (41 R155). -/
  | step45
  /-- STEP46: round 3, position 14 (41 R156). -/
  | step46
  /-- STEP47: round 3, position 15 (41 R157). -/
  | step47
  /-- STEP48: round 4, position 0 (41 R158). -/
  | step48
  /-- STEP49: round 4, position 1 (41 R159). -/
  | step49
  /-- STEP50: round 4, position 2 (41 R160). -/
  | step50
  /-- STEP51: round 4, position 3 (41 R161). -/
  | step51
  /-- STEP52: round 4, position 4 (41 R162). -/
  | step52
  /-- STEP53: round 4, position 5 (41 R163). -/
  | step53
  /-- STEP54: round 4, position 6 (41 R164). -/
  | step54
  /-- STEP55: round 4, position 7 (41 R165). -/
  | step55
  /-- STEP56: round 4, position 8 (41 R166). -/
  | step56
  /-- STEP57: round 4, position 9 (41 R167). -/
  | step57
  /-- STEP58: round 4, position 10 (41 R168). -/
  | step58
  /-- STEP59: round 4, position 11 (41 R169). -/
  | step59
  /-- STEP60: round 4, position 12 (41 R170). -/
  | step60
  /-- STEP61: round 4, position 13 (41 R171). -/
  | step61
  /-- STEP62: round 4, position 14 (41 R172). -/
  | step62
  /-- STEP63: round 4, position 15 (41 R173). -/
  | step63
deriving DecidableEq, Repr

end Sys2Proof
end

