-- ==== Sys2Proof/WellFormed.lean ====
section
/-! DEFINITION. Which instructions are canonical (30_encoding.md R73): every bit the command ignores
is 0. Operand ranges need no check, since each operand has exactly the width its field has. A
non-canonical instruction is no illegal one: it decodes and runs exactly as the canonical one of the
same command (R78), so no meaning and no statement about running asks for this check (log 12). -/

namespace Sys2Proof

/-- The canonical encodings of R73: the ones the script syntax of R80 produces. A step has no ignored
bit. -/
def Instr.wellFormed : Instr → Bool
  | .init data => data == 0
  | .update _ => true
  | .final data => data == 0
  | .read ign _ => ign == 0
  | .step0 => true
  | .step1 => true
  | .step2 => true
  | .step3 => true
  | .step4 => true
  | .step5 => true
  | .step6 => true
  | .step7 => true
  | .step8 => true
  | .step9 => true
  | .step10 => true
  | .step11 => true
  | .step12 => true
  | .step13 => true
  | .step14 => true
  | .step15 => true
  | .step16 => true
  | .step17 => true
  | .step18 => true
  | .step19 => true
  | .step20 => true
  | .step21 => true
  | .step22 => true
  | .step23 => true
  | .step24 => true
  | .step25 => true
  | .step26 => true
  | .step27 => true
  | .step28 => true
  | .step29 => true
  | .step30 => true
  | .step31 => true
  | .step32 => true
  | .step33 => true
  | .step34 => true
  | .step35 => true
  | .step36 => true
  | .step37 => true
  | .step38 => true
  | .step39 => true
  | .step40 => true
  | .step41 => true
  | .step42 => true
  | .step43 => true
  | .step44 => true
  | .step45 => true
  | .step46 => true
  | .step47 => true
  | .step48 => true
  | .step49 => true
  | .step50 => true
  | .step51 => true
  | .step52 => true
  | .step53 => true
  | .step54 => true
  | .step55 => true
  | .step56 => true
  | .step57 => true
  | .step58 => true
  | .step59 => true
  | .step60 => true
  | .step61 => true
  | .step62 => true
  | .step63 => true

/-- The canonical instruction of the same command: every ignored bit 0 (R78). -/
def Instr.canonical : Instr → Instr
  | .init _ => .init 0
  | .update x => .update x
  | .final _ => .final 0
  | .read _ k => .read 0 k
  | .step0 => .step0
  | .step1 => .step1
  | .step2 => .step2
  | .step3 => .step3
  | .step4 => .step4
  | .step5 => .step5
  | .step6 => .step6
  | .step7 => .step7
  | .step8 => .step8
  | .step9 => .step9
  | .step10 => .step10
  | .step11 => .step11
  | .step12 => .step12
  | .step13 => .step13
  | .step14 => .step14
  | .step15 => .step15
  | .step16 => .step16
  | .step17 => .step17
  | .step18 => .step18
  | .step19 => .step19
  | .step20 => .step20
  | .step21 => .step21
  | .step22 => .step22
  | .step23 => .step23
  | .step24 => .step24
  | .step25 => .step25
  | .step26 => .step26
  | .step27 => .step27
  | .step28 => .step28
  | .step29 => .step29
  | .step30 => .step30
  | .step31 => .step31
  | .step32 => .step32
  | .step33 => .step33
  | .step34 => .step34
  | .step35 => .step35
  | .step36 => .step36
  | .step37 => .step37
  | .step38 => .step38
  | .step39 => .step39
  | .step40 => .step40
  | .step41 => .step41
  | .step42 => .step42
  | .step43 => .step43
  | .step44 => .step44
  | .step45 => .step45
  | .step46 => .step46
  | .step47 => .step47
  | .step48 => .step48
  | .step49 => .step49
  | .step50 => .step50
  | .step51 => .step51
  | .step52 => .step52
  | .step53 => .step53
  | .step54 => .step54
  | .step55 => .step55
  | .step56 => .step56
  | .step57 => .step57
  | .step58 => .step58
  | .step59 => .step59
  | .step60 => .step60
  | .step61 => .step61
  | .step62 => .step62
  | .step63 => .step63

/-- Is this a command of the command port (R72), and not a step of the compressor (R77)? -/
def Instr.isCommand : Instr → Bool
  | .init _ => true
  | .update _ => true
  | .final _ => true
  | .read _ _ => true
  | .step0 => false
  | .step1 => false
  | .step2 => false
  | .step3 => false
  | .step4 => false
  | .step5 => false
  | .step6 => false
  | .step7 => false
  | .step8 => false
  | .step9 => false
  | .step10 => false
  | .step11 => false
  | .step12 => false
  | .step13 => false
  | .step14 => false
  | .step15 => false
  | .step16 => false
  | .step17 => false
  | .step18 => false
  | .step19 => false
  | .step20 => false
  | .step21 => false
  | .step22 => false
  | .step23 => false
  | .step24 => false
  | .step25 => false
  | .step26 => false
  | .step27 => false
  | .step28 => false
  | .step29 => false
  | .step30 => false
  | .step31 => false
  | .step32 => false
  | .step33 => false
  | .step34 => false
  | .step35 => false
  | .step36 => false
  | .step37 => false
  | .step38 => false
  | .step39 => false
  | .step40 => false
  | .step41 => false
  | .step42 => false
  | .step43 => false
  | .step44 => false
  | .step45 => false
  | .step46 => false
  | .step47 => false
  | .step48 => false
  | .step49 => false
  | .step50 => false
  | .step51 => false
  | .step52 => false
  | .step53 => false
  | .step54 => false
  | .step55 => false
  | .step56 => false
  | .step57 => false
  | .step58 => false
  | .step59 => false
  | .step60 => false
  | .step61 => false
  | .step62 => false
  | .step63 => false

end Sys2Proof
end

