-- ==== Sys2Proof/Decode.lean ====
section
/-! DEFINITION. Decoding and encoding (30_encoding.md R71 to R73, R77 to R79). The engine decodes two
things: a 10-bit command word, offered on the command port, and the 6-bit step counter T, which selects
a step. Both decoders are total and refuse nothing, because every command word and every value of T is
assigned (R77, R78). The form in octets, which the spec does not have, stands after them; it refuses,
by name, what is neither. -/

namespace Sys2Proof

/-- What selects an instruction. -/
inductive CodeWord where
  /-- A command word `cmd[9:0]` (R71). -/
  | cmd (w : BitVec 10)
  /-- The step counter T, selecting a step (R77). -/
  | sel (t : BitVec 6)
deriving DecidableEq, Repr

/-- `op = cmd[9:8]` (R71). -/
def opField (w : BitVec 10) : BitVec 2 := w.extractLsb' 8 2

/-- `data = cmd[7:0]` (R71). -/
def dataField (w : BitVec 10) : BitVec 8 := w.extractLsb' 0 8

/-- `cmd[7:4]`, which READ ignores (R73). -/
def ignField (w : BitVec 10) : BitVec 4 := w.extractLsb' 4 4

/-- `k = cmd[3:0]`, the index of READ (R73). -/
def indexField (w : BitVec 10) : BitVec 4 := w.extractLsb' 0 4

/-- The command of a command word, by its `op` (R72). -/
def decodeCmd (w : BitVec 10) : Instr :=
  if opField w = 0 then .init (dataField w)
  else if opField w = 1 then .update (dataField w)
  else if opField w = 2 then .final (dataField w)
  else .read (ignField w) (indexField w)

/-- The steps of round 1, in the order of T (R77). -/
def stepsRound1 : List Instr :=
  [.step0, .step1, .step2, .step3, .step4, .step5, .step6, .step7,
   .step8, .step9, .step10, .step11, .step12, .step13, .step14, .step15]

/-- The steps of round 2, in the order of T (R77). -/
def stepsRound2 : List Instr :=
  [.step16, .step17, .step18, .step19, .step20, .step21, .step22, .step23,
   .step24, .step25, .step26, .step27, .step28, .step29, .step30, .step31]

/-- The steps of round 3, in the order of T (R77). -/
def stepsRound3 : List Instr :=
  [.step32, .step33, .step34, .step35, .step36, .step37, .step38, .step39,
   .step40, .step41, .step42, .step43, .step44, .step45, .step46, .step47]

/-- The steps of round 4, in the order of T (R77). -/
def stepsRound4 : List Instr :=
  [.step48, .step49, .step50, .step51, .step52, .step53, .step54, .step55,
   .step56, .step57, .step58, .step59, .step60, .step61, .step62, .step63]

/-- STEP0 .. STEP63 in the order of T (R77). -/
def stepInstrs : List Instr := stepsRound1 ++ stepsRound2 ++ stepsRound3 ++ stepsRound4

/-- The step that the step counter selects: "Every value 0..63 of T selects a step; there is no unused
row" (R77). The list has 64 entries, so the default is never taken. -/
def decodeSel (t : BitVec 6) : Instr := stepInstrs.getD t.toNat .step63

/-- The instruction of a code word. -/
def decode : CodeWord → Instr
  | .cmd w => decodeCmd w
  | .sel t => decodeSel t

/-! ### The encoder, from the same tables -/

/-- A command word from its `op` and `data` (R71). -/
def cmdWord (op : BitVec 2) (data : BitVec 8) : BitVec 10 := op ++ data

/-- The code word of an instruction. -/
def encode : Instr → CodeWord
  | .init data => .cmd (cmdWord 0 data)
  | .update x => .cmd (cmdWord 1 x)
  | .final data => .cmd (cmdWord 2 data)
  | .read ign k => .cmd (cmdWord 3 (ign ++ k))
  | .step0 => .sel 0
  | .step1 => .sel 1
  | .step2 => .sel 2
  | .step3 => .sel 3
  | .step4 => .sel 4
  | .step5 => .sel 5
  | .step6 => .sel 6
  | .step7 => .sel 7
  | .step8 => .sel 8
  | .step9 => .sel 9
  | .step10 => .sel 10
  | .step11 => .sel 11
  | .step12 => .sel 12
  | .step13 => .sel 13
  | .step14 => .sel 14
  | .step15 => .sel 15
  | .step16 => .sel 16
  | .step17 => .sel 17
  | .step18 => .sel 18
  | .step19 => .sel 19
  | .step20 => .sel 20
  | .step21 => .sel 21
  | .step22 => .sel 22
  | .step23 => .sel 23
  | .step24 => .sel 24
  | .step25 => .sel 25
  | .step26 => .sel 26
  | .step27 => .sel 27
  | .step28 => .sel 28
  | .step29 => .sel 29
  | .step30 => .sel 30
  | .step31 => .sel 31
  | .step32 => .sel 32
  | .step33 => .sel 33
  | .step34 => .sel 34
  | .step35 => .sel 35
  | .step36 => .sel 36
  | .step37 => .sel 37
  | .step38 => .sel 38
  | .step39 => .sel 39
  | .step40 => .sel 40
  | .step41 => .sel 41
  | .step42 => .sel 42
  | .step43 => .sel 43
  | .step44 => .sel 44
  | .step45 => .sel 45
  | .step46 => .sel 46
  | .step47 => .sel 47
  | .step48 => .sel 48
  | .step49 => .sel 49
  | .step50 => .sel 50
  | .step51 => .sel 51
  | .step52 => .sel 52
  | .step53 => .sel 53
  | .step54 => .sel 54
  | .step55 => .sel 55
  | .step56 => .sel 56
  | .step57 => .sel 57
  | .step58 => .sel 58
  | .step59 => .sel 59
  | .step60 => .sel 60
  | .step61 => .sel 61
  | .step62 => .sel 62
  | .step63 => .sel 63

/-! ### Code words as octets

The spec stores no code word in any memory, so it gives none a form in octets. DESIGN CHOICE (log 3):
one octet is a step selector, two octets are a command word, the less significant octet first; the bits
above the word's own width are 0. -/

/-- Why octets are no code word. -/
inductive DecodeReject where
  /-- One octet, but a value above 63: T has 6 bits (10_state.md R23). -/
  | selectorTooWide
  /-- Two octets, but a value above 1023: "the length of a command is always 10 bits" (R79). -/
  | commandTooWide
  /-- Neither one octet nor two. -/
  | noSuchLength
deriving DecidableEq, Repr

/-- The code word that octets hold, or the reason why they hold none. -/
def codeWordOfBytes : List Byte → Except DecodeReject CodeWord
  | [b] => if b.toNat < 64 then .ok (.sel (b.setWidth 6)) else .error .selectorTooWide
  | [b0, b1] => if b1.toNat < 4 then .ok (.cmd ((b1 ++ b0).setWidth 10)) else .error .commandTooWide
  | _ => .error .noSuchLength

/-- The instruction that octets hold: total on any octets, refusing by name. -/
def decodeBytes (bs : List Byte) : Except DecodeReject Instr :=
  match codeWordOfBytes bs with
  | .ok c => .ok (decode c)
  | .error e => .error e

/-- The octets of a code word. -/
def bytesOfCodeWord : CodeWord → List Byte
  | .sel t => [t.setWidth 8]
  | .cmd w => [w.extractLsb' 0 8, (w.extractLsb' 8 2).setWidth 8]

/-- The octets of a word of the opcode table whose `nbits` bits have the value `w`. -/
def tableBytes (nbits w : Nat) : List Byte :=
  (List.range ((nbits + 7) / 8)).map fun i => BitVec.ofNat 8 (w / 256 ^ i)

/-- Is `w` a value of `nbits` bits in whole octets? -/
def fitsTable (nbits w : Nat) : Bool := w < 256 ^ ((nbits + 7) / 8)

/-- The code word of a word of the opcode table, if it is one. -/
def tableCodeWord (nbits w : Nat) : Option CodeWord :=
  if fitsTable nbits w then (codeWordOfBytes (tableBytes nbits w)).toOption else none

/-- The instruction the decoder reads from a word of the opcode table. -/
def decodeTableWord (nbits w : Nat) : Option Instr :=
  (tableCodeWord nbits w).map decode

end Sys2Proof
end

