-- ==== Sys2Proof/Machine/Tables.lean ====
section
/-! DEFINITION. The constant tables (40_constant_tables.md): initial words, round functions and their
selection, word index, shift amounts, round constants. "Process-wide immutable data" (R97): they are
definitions, not state. The values of S and K are the spec's own from general knowledge (R92, R93, G2,
G3; log 10). -/

namespace Sys2Proof.Machine

/-- The initial chaining value IV (R90). -/
def iv : Quad := ⟨0x67452301, 0xEFCDAB89, 0x98BADCFE, 0x10325476⟩

/-- The four round functions; the spec's `Hfn` is D0's `H` (41 R103 to R106). -/
inductive RoundFn where
  | F
  | G
  | Hfn
  | I
deriving DecidableEq, Repr

/-- Round 1: `F(b, c, d) = (b ∧ c) ∨ (¬b ∧ d)` (41 R103). -/
def roundF (b c d : Word) : Word := or32 (and32 b c) (and32 (not32 b) d)

/-- Round 2: `G(b, c, d) = (b ∧ d) ∨ (c ∧ ¬d)` (41 R104). -/
def roundG (b c d : Word) : Word := or32 (and32 b d) (and32 c (not32 d))

/-- Round 3: `Hfn(b, c, d) = b ⊕ c ⊕ d` (41 R105). -/
def roundH (b c d : Word) : Word := xor32 (xor32 b c) d

/-- Round 4: `I(b, c, d) = c ⊕ (b ∨ ¬d)` (41 R106). -/
def roundI (b c d : Word) : Word := xor32 c (or32 b (not32 d))

/-- The value of a round function. -/
def RoundFn.apply : RoundFn → Word → Word → Word → Word
  | .F => roundF
  | .G => roundG
  | .Hfn => roundH
  | .I => roundI

/-- The round of step t less one: `T[5:4]` (30 R77). -/
def roundOf (t : BitVec 6) : BitVec 2 := t.extractLsb' 4 2

/-- The round function of step t: "steps 0..15 use F, steps 16..31 use G, steps 32..47 use Hfn (D0's
H), steps 48..63 use I" (R95). -/
def fnOf (t : BitVec 6) : RoundFn :=
  if roundOf t = 0 then .F else if roundOf t = 1 then .G else if roundOf t = 2 then .Hfn else .I

/-- The index of the message word added at step t, by the formulae of R94. -/
def widx (t : BitVec 6) : BitVec 4 :=
  if roundOf t = 0 then BitVec.ofNat 4 t.toNat
  else if roundOf t = 1 then BitVec.ofNat 4 (5 * t.toNat + 1)
  else if roundOf t = 2 then BitVec.ofNat 4 (3 * t.toNat + 5)
  else BitVec.ofNat 4 (7 * t.toNat)

/-- The four shift amounts of a round, for t mod 4 = 0, 1, 2, 3 (R92). -/
def roundShifts (r : BitVec 2) : List Nat :=
  if r = 0 then [7, 12, 17, 22]
  else if r = 1 then [5, 9, 14, 20]
  else if r = 2 then [4, 11, 16, 23]
  else [6, 10, 15, 21]

/-- The left-rotate amount `S[t]` of step t (R92): it "depends only on the round (t div 16) and on t
mod 4". -/
def shiftOf (t : BitVec 6) : Nat := (roundShifts (roundOf t)).getD (t.toNat % 4) 0

/-- The round constants `K[0..63]` (R93), a round a piece. -/
def roundConstants : List Word :=
  [0xD76AA478, 0xE8C7B756, 0x242070DB, 0xC1BDCEEE,
   0xF57C0FAF, 0x4787C62A, 0xA8304613, 0xFD469501,
   0x698098D8, 0x8B44F7AF, 0xFFFF5BB1, 0x895CD7BE,
   0x6B901122, 0xFD987193, 0xA679438E, 0x49B40821]
  ++ [0xF61E2562, 0xC040B340, 0x265E5A51, 0xE9B6C7AA,
     0xD62F105D, 0x02441453, 0xD8A1E681, 0xE7D3FBC8,
     0x21E1CDE6, 0xC33707D6, 0xF4D50D87, 0x455A14ED,
     0xA9E3E905, 0xFCEFA3F8, 0x676F02D9, 0x8D2A4C8A]
  ++ [0xFFFA3942, 0x8771F681, 0x6D9D6122, 0xFDE5380C,
     0xA4BEEA44, 0x4BDECFA9, 0xF6BB4B60, 0xBEBFBC70,
     0x289B7EC6, 0xEAA127FA, 0xD4EF3085, 0x04881D05,
     0xD9D4D039, 0xE6DB99E5, 0x1FA27CF8, 0xC4AC5665]
  ++ [0xF4292244, 0x432AFF97, 0xAB9423A7, 0xFC93A039,
     0x655B59C3, 0x8F0CCC92, 0xFFEFF47D, 0x85845DD1,
     0x6FA87E4F, 0xFE2CE6E0, 0xA3014314, 0x4E0811A1,
     0xF7537E82, 0xBD3AF235, 0x2AD7D2BB, 0xEB86D391]

/-- The round constant `K[t]` of step t (R93). The list has 64 entries, so the default is never
taken. -/
def constOf (t : BitVec 6) : Word := roundConstants.getD t.toNat 0

end Sys2Proof.Machine
end

