-- ==== Sys2Proof/Machine/State.lean ====
section
/-! DEFINITION. The state of one engine instance (10_state.md R20), the host's side of its ports, the
reasons a step can stop, and the state after reset (R33, 70_reset_and_hazards.md R240). -/

namespace Sys2Proof.Machine

/-- What the host does next at the engine's ports (30_encoding.md R70, 70_reset_and_hazards.md R241,
R243). -/
inductive HostEvent where
  /-- A command word offered on `cmd`; it is accepted when the engine is ready (R76). -/
  | cmd (w : BitVec 10)
  /-- Reset on `rst`, between two commands or in the middle of a compression (R240, R241). -/
  | reset
  /-- Reset while the command `w` is in progress and not yet answered: the command is lost (R241). -/
  | resetDuring (w : BitVec 10)
  /-- The one transfer of the response word that is present on `rsp` (R70). -/
  | transfer
  /-- The host samples `fin_o`, `uerr_o` and `digest_o` (R243). -/
  | sample
deriving DecidableEq, Repr

/-- The status outputs as a host samples them (R70). -/
structure Outputs where
  /-- `fin_o`. -/
  fin : Bool
  /-- `uerr_o`. -/
  uerr : Bool
  /-- `digest_o[127:0]`. -/
  digest : BitVec 128
deriving DecidableEq, Repr

/-- Why a step faults. -/
inductive Fault where
  /-- A step of the compressor reads the message word at BUF address `addr`, and one of its four cells
  holds no value ("fault on a read of a dead cell", 92 D12). Raised by STEP0 .. STEP63, alone or inside
  UPDATE and FINAL. Safe: the model stops; no state the commands reach raises it (R55). -/
  | deadCell (addr : Nat)
deriving DecidableEq, Repr

/-- Why a step refuses. -/
inductive Refusal where
  /-- The instruction has no meaning in this model. Raised by the dispatch of an instruction without
  one, and there is none. Safe: the model stops. -/
  | notModelled (mnemonic : String)
deriving DecidableEq, Repr

/-- The state. Fields `h` to `rsp` are the engine's; `port` to `draws` are the model's record of the
host's side (logs 2, 6, 7, 8). -/
structure State where
  /-- H[0..3] = A, B, C, D (R21). -/
  h : Quad
  /-- BUF: the cells that hold a value, by address (R25; log 4). -/
  buf : List Host.Cell
  /-- LEN: the number of pending octets (R25). -/
  len : BitVec 6
  /-- BITCNT: message bits consumed, modulo 2^64 (R24). -/
  bitcnt : BitVec 64
  /-- FIN: 0 Open, 1 Finalized (R26). -/
  fin : Bool
  /-- UERR: a command was rejected since the last INIT or reset (R27). -/
  uerr : Bool
  /-- a, b, c, d: the working registers of the compressor (R22). -/
  work : Quad
  /-- T: the step counter (R23). -/
  t : BitVec 6
  /-- A compression is in progress, so the next thing the engine does is STEP T (R23, R109). -/
  running : Bool
  /-- The response port: the response word of the most recently completed command, until its one
  transfer; none after that and after reset (30 R70, 10 R33; log 7). -/
  rsp : Option (BitVec 9)
  /-- What the host does next, oldest first (log 2). -/
  port : List HostEvent
  /-- The responses given, oldest first: "the sequence of responses, which is never erased" (60 R226;
  log 7). -/
  sent : List (BitVec 9)
  /-- The samples of the status outputs taken, oldest first (log 8). -/
  seen : List Outputs
  /-- How many free values of `digest_o` were drawn (log 6). -/
  draws : Nat
deriving DecidableEq, Repr

/-- The state after reset (R33, R240): H = IV, LEN = 0, BITCNT = 0, FIN = 0, UERR = 0, no cell of BUF
holds a value, no response is present. The spec gives a, b, c, d and T no reset value: 0 is a DESIGN
CHOICE (log 5), as are the model's own fields (logs 2, 6, 7, 8). -/
def State.reset : State where
  h := iv
  buf := []
  len := 0
  bitcnt := 0
  fin := false
  uerr := false
  work := ⟨0, 0, 0, 0⟩
  t := 0
  running := false
  rsp := none
  port := []
  sent := []
  seen := []
  draws := 0

end Sys2Proof.Machine
end

