-- ==== Sys2Proof/Machine/Operands.lean ====
section
/-! DEFINITION. Operand forms (00_scope.md R10, 20_memory.md R51 to R53): rotation, the little-endian
views of words and octets, the octets of the Digest, the response word. -/

namespace Sys2Proof.Machine

/-- `rotl32(x, n)`, 1 <= n <= 31: `((x << n) or (x >> (32 - n))) mod 2^32` (R10). -/
def rotl32 (x : Word) (n : Nat) : Word := or32 (x <<< n) (x >>> (32 - n))

/-- `LE32(b0, b1, b2, b3)`: b0 + 2^8·b1 + 2^16·b2 + 2^24·b3 (R10). -/
def le32 (b0 b1 b2 b3 : Byte) : Word := b3 ++ b2 ++ b1 ++ b0

/-- `bytes_LE32(w)`: w[7:0], w[15:8], w[23:16], w[31:24] (R10). -/
def bytesLE32 (w : Word) : List Byte :=
  [w.extractLsb' 0 8, w.extractLsb' 8 8, w.extractLsb' 16 8, w.extractLsb' 24 8]

/-- `bytes_LE64(n)`: n[7:0], n[15:8], ..., n[63:56] (R10); the length suffix of R52. -/
def bytesLE64 (n : BitVec 64) : List Byte :=
  [n.extractLsb' 0 8, n.extractLsb' 8 8, n.extractLsb' 16 8, n.extractLsb' 24 8,
   n.extractLsb' 32 8, n.extractLsb' 40 8, n.extractLsb' 48 8, n.extractLsb' 56 8]

/-- H[i] of four words, i in 0..3 (00 R11). -/
def quadGet (q : Quad) (i : BitVec 2) : Word :=
  if i = 0 then q.a else if i = 1 then q.b else if i = 2 then q.c else q.d

/-- `DG(k) = H[k div 4][8·(k mod 4) + 7 : 8·(k mod 4)]`, k in 0..15 (20 R53). -/
def digestOctet (h : Quad) (k : BitVec 4) : Byte :=
  (quadGet h (k.extractLsb' 2 2)).extractLsb' (8 * (k.extractLsb' 0 2).toNat) 8

/-- The Digest as octets: A, B, C, D each little-endian, in that order (10 R30). -/
def digestBytes (h : Quad) : List Byte :=
  bytesLE32 h.a ++ bytesLE32 h.b ++ bytesLE32 h.c ++ bytesLE32 h.d

/-- `{D, C, B, A}`: the Digest as one vector, `digest_o[8k+7 : 8k]` = DG(k) (30 R83). -/
def digestVector (h : Quad) : BitVec 128 := h.d ++ h.c ++ h.b ++ h.a

/-- The response word: `rsp[8]` = err, `rsp[7:0]` = rdata (30 R75). -/
def responseWord (err : Bool) (rdata : Byte) : BitVec 9 := BitVec.ofBool err ++ rdata

end Sys2Proof.Machine
end

