-- ==== Sys2Proof/Machine/Flags.lean ====
section
/-! DEFINITION. The two flags FIN and UERR (10_state.md R26, R27) and what they decide: the phase check
that every command makes first (60_exceptions.md R221, R225). No operation of the engine sets any other
flag (10 R35). -/

namespace Sys2Proof.Machine

/-- The phases (44 R200). -/
inductive Phase where
  | opened
  | finalized
deriving DecidableEq, Repr

/-- FIN = 0 is Open, FIN = 1 is Finalized (10 R26). -/
def phaseOf (fin : Bool) : Phase := if fin then .finalized else .opened

/-- UPDATE and FINAL are rejected when FIN = 1 (60 R221). -/
def openOnlyRejected (s : State) : Bool := s.fin

/-- READ is rejected when FIN = 0 (60 R221). -/
def finalizedOnlyRejected (s : State) : Bool := !s.fin

end Sys2Proof.Machine
end

