-- ==== Sys2Proof/Machine/Ops.lean ====
section
/-! DEFINITION. The named operations over state: BUF cells and message words (20_memory.md R54, R55),
the response (30_encoding.md R75), taking the one exception (60_exceptions.md R222), reset
(70_reset_and_hazards.md R240, R241) and the status outputs (44_digest_engine.md R205). -/

namespace Sys2Proof.Machine

/-- What a meaning answers. -/
abbrev Answer := Host.Outcome State Fault Refusal

/-- Go on from a next state; a fault or a refusal stands. -/
def andThen (o : Answer) (f : State → Answer) : Answer :=
  match o with
  | .next s => f s
  | .fault r => .fault r
  | .refused r => .refused r

/-! ### BUF -/

/-- BUF as data: its cells that hold a value, addresses strictly rising. -/
abbrev Memory := List Host.Cell

/-- The canonical form: addresses strictly rising, all of them cells 0..63 (20 R50). A cell that is not
listed holds no value, so no listed cell can equal what an unlisted one reads as. -/
def Memory.wf : List Host.Cell → Bool
  | [] => true
  | [c] => c.1 < 64
  | c :: c' :: r => c.1 < c'.1 && Memory.wf (c' :: r)

/-- The octet a cell holds; none for a cell that holds no value (10 R25, 92 D12; log 4). -/
def readByte : List Host.Cell → Nat → Option Byte
  | [], _ => none
  | c :: r, addr => if c.1 = addr then some c.2 else readByte r addr

/-- `MemWrite(addr, 1, v)`: store one octet in one cell (20 R54). -/
def writeByte : List Host.Cell → Nat → Byte → List Host.Cell
  | [], addr, v => [(addr, v)]
  | c :: r, addr, v =>
    if addr < c.1 then (addr, v) :: c :: r
    else if addr = c.1 then (addr, v) :: r
    else c :: writeByte r addr v

/-- Store octets in ascending cells from `addr`, one octet per index (20 R54, 42 R184). -/
def writeBytes (m : List Host.Cell) (addr : Nat) : List Byte → List Host.Cell
  | [] => m
  | v :: vs => writeBytes (writeByte m addr v) (addr + 1) vs

/-- `M[j] = MemRead(4j, 4) = LE32(BUF[4j], BUF[4j+1], BUF[4j+2], BUF[4j+3])` (20 R51, R55; 10 R29);
none when one of the four cells holds no value. -/
def readWord (m : List Host.Cell) (j : BitVec 4) : Option Word :=
  match readByte m (4 * j.toNat), readByte m (4 * j.toNat + 1), readByte m (4 * j.toNat + 2),
      readByte m (4 * j.toNat + 3) with
  | some b0, some b1, some b2, some b3 => some (le32 b0 b1 b2 b3)
  | _, _, _, _ => none

/-- The cells that hold octets `bs` from address `addr` on. -/
def cellsFrom (addr : Nat) : List Byte → List Host.Cell
  | [] => []
  | b :: bs => (addr, b) :: cellsFrom (addr + 1) bs

/-- BUF when no cell holds a value: after INIT and reset, after a block has been compressed inside
UPDATE, and after FINAL (10 R25, 43 R191, 44 R202; log 4). -/
def noCells : List Host.Cell := []

/-! ### Responses and the exception -/

/-- `respond(err, rdata)`: the response word of the command (30 R75), one per command, in order
(30 R76). -/
def respond (err : Bool) (rdata : Byte) (s : State) : State :=
  { s with rsp := some (responseWord err rdata), sent := s.sent ++ [responseWord err rdata] }

/-- `raise UsageError(op)`: `UERR <- 1; respond(1, 0x00)`, "exactly this and nothing more" (60 R222).
It is the whole of taking the exception: there is no vector, no saved state and no mode. There is no
return from it either, "because control never left" (60 R226). -/
def raiseUsageError (s : State) : State := respond true 0 { s with uerr := true }

/-- The one transfer of the response word: it is present "for one transfer", so `rsp_valid` is 0 after
it (30 R70). With no word present there is nothing to transfer and nothing changes (log 7). -/
def transferRsp (s : State) : State := { s with rsp := none }

/-! ### Reset and the host's side -/

/-- Reset: "replaces the state by the reset state" (70 R241); no response is pending. The host's side
stands: what it does next, the responses and samples it has, the draws made (logs 6, 7, 8, 9). -/
def resetBy (s : State) : State :=
  { State.reset with port := s.port, sent := s.sent, seen := s.seen, draws := s.draws }

/-- `cmd_ready`: 0 while a compression is in progress, 1 otherwise (30 R70, R76). -/
def cmdReady (s : State) : Bool := !s.running

/-- `rsp_valid`: a response word is present (30 R70). -/
def rspValid (s : State) : Bool := s.rsp.isSome

/-- `digest_o`: `{H[3], H[2], H[1], H[0]}` while FIN = 1, and a free value while FIN = 0 (44 R205, 93
U5; log 6). -/
def digestO (s : State) : BitVec 128 :=
  if s.fin then digestVector s.h else Config.freeDigest s.draws

/-- The status outputs in a state (30 R70). -/
def outputs (s : State) : Outputs := { fin := s.fin, uerr := s.uerr, digest := digestO s }

/-- The host samples the status outputs: nothing of the engine changes ("No read of any space has a
side effect", 20 R56); the next sample draws anew (93 U5; log 6). -/
def takeSample (s : State) : State :=
  { s with seen := s.seen ++ [outputs s], draws := s.draws + 1 }

end Sys2Proof.Machine
end

