-- ==== Sys2Proof/Machine/Compressor.lean ====
section
/-! DEFINITION. The block compressor (41_block_compressor.md R100 to R109): load, one step, the
sequencing by T, the add-back; and Compress as the pure function H' = f(H, blk) of R108. -/

namespace Sys2Proof.Machine

/-- The register update of one step (R102, as corrected by 90_conflicts.md C1; log 10):
`(a, b, c, d) <- (d, add32(b, rotl32(add32(a, f(b, c, d), m, k), n)), b, c)`. -/
def roundStep (f : Word → Word → Word → Word) (m k : Word) (n : Nat) (w : Quad) : Quad :=
  { a := w.d
    b := add32 w.b (rotl32 (add32 (add32 (add32 w.a (f w.b w.c w.d)) m) k) n)
    c := w.b
    d := w.c }

/-- One step on the state: the working registers take the step with message word M[j], and T takes its
next value. The step reads BUF and writes nothing else (R102, R108). -/
def runStep (f : Word → Word → Word → Word) (j : BitVec 4) (k : Word) (n : Nat) (next : BitVec 6)
    (s : State) : Answer :=
  match readWord s.buf j with
  | some m => .next { s with work := roundStep f m k n s.work, t := next }
  | none => .fault (.deadCell (4 * j.toNat))

/-- "copy (A,B,C,D) into working registers (a,b,c,d)", and T <- 0 (R101, R100): a compression is in
progress from here on. -/
def loadWork (s : State) : State := { s with work := s.h, t := 0, running := true }

/-- Four independent additions modulo 2^32, no carry from one word to the next (R107). -/
def quadAdd (x y : Quad) : Quad := ⟨add32 x.a y.a, add32 x.b y.b, add32 x.c y.c, add32 x.d y.d⟩

/-- The add-back `H[i] <- add32(H[i], (a, b, c, d)[i])`, with which the compression ends (R107,
R109). -/
def addBack (s : State) : State := { s with h := quadAdd s.h s.work, running := false }

/-- STEP T for the value t of the step counter, from the tables (R102): T <- t + 1, and after step 63
the add-back; "T does not wrap into a second pass" (R109), so it stays 63 there (log 5). -/
def stepAt (t : BitVec 6) (s : State) : Answer :=
  if t = 63 then
    andThen (runStep (fnOf t).apply (widx t) (constOf t) (shiftOf t) 63 s) fun s' => .next (addBack s')
  else runStep (fnOf t).apply (widx t) (constOf t) (shiftOf t) (t + 1) s

/-- `n` steps in a row, each the step that T selects (R109). -/
def runSteps : Nat → State → Answer
  | 0, s => .next s
  | n + 1, s => andThen (stepAt s.t s) (runSteps n)

/-- `Compress(BUF[0..63])` (R100): the load, the 64 steps in the order of T, the add-back. -/
def compress (s : State) : Answer := runSteps 64 (loadWork s)

/-! ### Compress as a pure function -/

/-- The message words of a block of 64 octets: `M[j] = LE32(blk[4j], ..., blk[4j+3])` (10 R29). -/
def blockWord (blk : List Byte) (j : BitVec 4) : Word :=
  le32 (blk.getD (4 * j.toNat) 0) (blk.getD (4 * j.toNat + 1) 0) (blk.getD (4 * j.toNat + 2) 0)
    (blk.getD (4 * j.toNat + 3) 0)

/-- Step t on the working registers alone, for the block with message words `m` (R102). -/
def stepWords (m : BitVec 4 → Word) (t : BitVec 6) (w : Quad) : Quad :=
  roundStep (fnOf t).apply (m (widx t)) (constOf t) (shiftOf t) w

/-- The working registers after steps 0 .. n - 1 from `w` (R109). -/
def stepsFrom (m : BitVec 4 → Word) (w : Quad) : Nat → Quad
  | 0 => w
  | n + 1 => stepWords m (BitVec.ofNat 6 n) (stepsFrom m w n)

/-- "A model may therefore compute `Compress` as one pure function H' = f(H, blk)" (R108). -/
def compressBlock (h : Quad) (blk : List Byte) : Quad :=
  quadAdd h (stepsFrom (blockWord blk) h 64)

end Sys2Proof.Machine
end

