-- ==== Sys2Proof/Machine/Padder.lean ====
section
/-! DEFINITION. The padder (42_padder.md): the pad sequence of R181, and its octets in BUF, one block
or two (R182, R184). It runs inside FINAL. -/

namespace Sys2Proof.Machine

/-- `z = (55 - LEN) mod 64`, in the non-negative sense (R181). -/
def padZeros (len : BitVec 6) : Nat := (119 - len.toNat) % 64

/-- `PAD = 0x80 ++ 0x00^z ++ bytes_LE64(BITCNT)` (R181, R183). -/
def padBytes (len : BitVec 6) (bitcnt : BitVec 64) : List Byte :=
  0x80 :: List.replicate (padZeros len) 0 ++ bytesLE64 bitcnt

/-- One block: the pad octets follow the pending octets, and the full BUF is compressed (R184, case
LEN <= 55). -/
def padOneBlock (s : State) : Answer :=
  compress { s with buf := writeBytes s.buf s.len.toNat (padBytes s.len s.bitcnt) }

/-- Two blocks (R184, case LEN >= 56): the first 64 - LEN pad octets follow the pending octets and BUF
is compressed, then the last 64 pad octets fill BUF from cell 0 and it is compressed again. -/
def padTwoBlocks (s : State) : Answer :=
  andThen
    (compress { s with
      buf := writeBytes s.buf s.len.toNat ((padBytes s.len s.bitcnt).take (64 - s.len.toNat)) })
    fun s' => compress { s' with
      buf := writeBytes s'.buf 0 ((padBytes s.len s.bitcnt).drop (64 - s.len.toNat)) }

/-- "Produces one or two additional blocks depending on whether the pending buffer already exceeds 55
bytes" (R182). -/
def padAndCompress (s : State) : Answer :=
  if s.len.toNat ≤ 55 then padOneBlock s else padTwoBlocks s

end Sys2Proof.Machine
end

