-- ==== Sys2Proof/Machine/Accumulator.lean ====
section
/-! DEFINITION. The input accumulator: the command UPDATE (43_input_accumulator.md R190 to R194). -/

namespace Sys2Proof.Machine

/-- `MemWrite(LEN, 1, x)` and `BITCNT <- add64(BITCNT, 8)` (R190 steps 2 and 3, R192). -/
def storeOctet (x : Byte) (s : State) : State :=
  { s with buf := writeByte s.buf s.len.toNat x, bitcnt := add64 s.bitcnt 8 }

/-- After the block is compressed the buffer is empty: LEN <- 0, and the cells hold no value any more
(R191; log 4). -/
def emptyBuffer (s : State) : State := { s with len := 0, buf := noCells }

/-- `LEN <- LEN + 1` (R190 step 4). -/
def advanceLen (s : State) : State := { s with len := s.len + 1 }

/-- UPDATE x (R190): rejected while Finalized (R194); otherwise the octet is stored and counted, the
64th octet of a block has the block compressed at once (R191), and the response is OK. -/
def execUpdate (x : BitVec 8) (s : State) : Host.Outcome State Fault Refusal :=
  if openOnlyRejected s then .next (raiseUsageError s)
  else if s.len = 63 then
    andThen (compress (storeOctet x s)) fun s' => .next (respond false 0 (emptyBuffer s'))
  else .next (respond false 0 (advanceLen (storeOctet x s)))

end Sys2Proof.Machine
end

