-- ==== Sys2Proof/Machine/Engine.lean ====
section
/-! DEFINITION. The digest engine: the commands INIT, FINAL and READ (44_digest_engine.md R200 to
R206). -/

namespace Sys2Proof.Machine

/-- What INIT writes: H <- IV, LEN <- 0, BITCNT <- 0, FIN <- 0, UERR <- 0 (R201). With LEN = 0 no cell
of BUF holds a value (10 R25; log 4). -/
def initialise (s : State) : State :=
  { s with h := iv, len := 0, buf := noCells, bitcnt := 0, fin := false, uerr := false }

/-- INIT (R201): accepted in both phases; `cmd[7:0]` is ignored. -/
def execInit (_data : BitVec 8) (s : State) : Host.Outcome State Fault Refusal :=
  .next (respond false 0 (initialise s))

/-- `LEN <- 0; FIN <- 1`, BITCNT unchanged; the cells of BUF hold no value (R202). -/
def finalise (s : State) : State := { s with len := 0, fin := true, buf := noCells }

/-- FINAL (R202): rejected while Finalized (R203); otherwise the padding is appended and compressed, in
one block or two, and the engine is Finalized; `cmd[7:0]` is ignored. -/
def execFinal (_data : BitVec 8) (s : State) : Host.Outcome State Fault Refusal :=
  if openOnlyRejected s then .next (raiseUsageError s)
  else andThen (padAndCompress s) fun s' => .next (respond false 0 (finalise s'))

/-- READ k (R204): rejected while Open; otherwise the response carries DG(k) and no state is written;
`cmd[7:4]` is ignored. -/
def execRead (_ign : BitVec 4) (k : BitVec 4) (s : State) : Host.Outcome State Fault Refusal :=
  if finalizedOnlyRejected s then .next (raiseUsageError s)
  else .next (respond false (digestOctet s.h k) s)

end Sys2Proof.Machine
end

