-- ==== Sys2Proof/Machine/Steps.lean ====
section
/-! DEFINITION. The 64 steps (41_block_compressor.md R110 to R173), each over the one shared operation
runStep with the function, message word, round constant and rotation that its own rule writes out.
Laws/Steps.lean proves each equal to the step that the tables give for its T. -/

namespace Sys2Proof.Machine

/-- STEP0 (R110): function F, M[0], K[0] = 0xD76AA478, S[0] = 7; T <- 1. -/
def execStep0 (s : State) : Host.Outcome State Fault Refusal :=
  runStep roundF 0 0xD76AA478 7 1 s

/-- STEP1 (R111): function F, M[1], K[1] = 0xE8C7B756, S[1] = 12; T <- 2. -/
def execStep1 (s : State) : Host.Outcome State Fault Refusal :=
  runStep roundF 1 0xE8C7B756 12 2 s

/-- STEP2 (R112): function F, M[2], K[2] = 0x242070DB, S[2] = 17; T <- 3. -/
def execStep2 (s : State) : Host.Outcome State Fault Refusal :=
  runStep roundF 2 0x242070DB 17 3 s

/-- STEP3 (R113): function F, M[3], K[3] = 0xC1BDCEEE, S[3] = 22; T <- 4. -/
def execStep3 (s : State) : Host.Outcome State Fault Refusal :=
  runStep roundF 3 0xC1BDCEEE 22 4 s

/-- STEP4 (R114): function F, M[4], K[4] = 0xF57C0FAF, S[4] = 7; T <- 5. -/
def execStep4 (s : State) : Host.Outcome State Fault Refusal :=
  runStep roundF 4 0xF57C0FAF 7 5 s

/-- STEP5 (R115): function F, M[5], K[5] = 0x4787C62A, S[5] = 12; T <- 6. -/
def execStep5 (s : State) : Host.Outcome State Fault Refusal :=
  runStep roundF 5 0x4787C62A 12 6 s

/-- STEP6 (R116): function F, M[6], K[6] = 0xA8304613, S[6] = 17; T <- 7. -/
def execStep6 (s : State) : Host.Outcome State Fault Refusal :=
  runStep roundF 6 0xA8304613 17 7 s

/-- STEP7 (R117): function F, M[7], K[7] = 0xFD469501, S[7] = 22; T <- 8. -/
def execStep7 (s : State) : Host.Outcome State Fault Refusal :=
  runStep roundF 7 0xFD469501 22 8 s

/-- STEP8 (R118): function F, M[8], K[8] = 0x698098D8, S[8] = 7; T <- 9. -/
def execStep8 (s : State) : Host.Outcome State Fault Refusal :=
  runStep roundF 8 0x698098D8 7 9 s

/-- STEP9 (R119): function F, M[9], K[9] = 0x8B44F7AF, S[9] = 12; T <- 10. -/
def execStep9 (s : State) : Host.Outcome State Fault Refusal :=
  runStep roundF 9 0x8B44F7AF 12 10 s

/-- STEP10 (R120): function F, M[10], K[10] = 0xFFFF5BB1, S[10] = 17; T <- 11. -/
def execStep10 (s : State) : Host.Outcome State Fault Refusal :=
  runStep roundF 10 0xFFFF5BB1 17 11 s

/-- STEP11 (R121): function F, M[11], K[11] = 0x895CD7BE, S[11] = 22; T <- 12. -/
def execStep11 (s : State) : Host.Outcome State Fault Refusal :=
  runStep roundF 11 0x895CD7BE 22 12 s

/-- STEP12 (R122): function F, M[12], K[12] = 0x6B901122, S[12] = 7; T <- 13. -/
def execStep12 (s : State) : Host.Outcome State Fault Refusal :=
  runStep roundF 12 0x6B901122 7 13 s

/-- STEP13 (R123): function F, M[13], K[13] = 0xFD987193, S[13] = 12; T <- 14. -/
def execStep13 (s : State) : Host.Outcome State Fault Refusal :=
  runStep roundF 13 0xFD987193 12 14 s

/-- STEP14 (R124): function F, M[14], K[14] = 0xA679438E, S[14] = 17; T <- 15. -/
def execStep14 (s : State) : Host.Outcome State Fault Refusal :=
  runStep roundF 14 0xA679438E 17 15 s

/-- STEP15 (R125): function F, M[15], K[15] = 0x49B40821, S[15] = 22; T <- 16. -/
def execStep15 (s : State) : Host.Outcome State Fault Refusal :=
  runStep roundF 15 0x49B40821 22 16 s

/-- STEP16 (R126): function G, M[1], K[16] = 0xF61E2562, S[16] = 5; T <- 17. -/
def execStep16 (s : State) : Host.Outcome State Fault Refusal :=
  runStep roundG 1 0xF61E2562 5 17 s

/-- STEP17 (R127): function G, M[6], K[17] = 0xC040B340, S[17] = 9; T <- 18. -/
def execStep17 (s : State) : Host.Outcome State Fault Refusal :=
  runStep roundG 6 0xC040B340 9 18 s

/-- STEP18 (R128): function G, M[11], K[18] = 0x265E5A51, S[18] = 14; T <- 19. -/
def execStep18 (s : State) : Host.Outcome State Fault Refusal :=
  runStep roundG 11 0x265E5A51 14 19 s

/-- STEP19 (R129): function G, M[0], K[19] = 0xE9B6C7AA, S[19] = 20; T <- 20. -/
def execStep19 (s : State) : Host.Outcome State Fault Refusal :=
  runStep roundG 0 0xE9B6C7AA 20 20 s

/-- STEP20 (R130): function G, M[5], K[20] = 0xD62F105D, S[20] = 5; T <- 21. -/
def execStep20 (s : State) : Host.Outcome State Fault Refusal :=
  runStep roundG 5 0xD62F105D 5 21 s

/-- STEP21 (R131): function G, M[10], K[21] = 0x02441453, S[21] = 9; T <- 22. -/
def execStep21 (s : State) : Host.Outcome State Fault Refusal :=
  runStep roundG 10 0x02441453 9 22 s

/-- STEP22 (R132): function G, M[15], K[22] = 0xD8A1E681, S[22] = 14; T <- 23. -/
def execStep22 (s : State) : Host.Outcome State Fault Refusal :=
  runStep roundG 15 0xD8A1E681 14 23 s

/-- STEP23 (R133): function G, M[4], K[23] = 0xE7D3FBC8, S[23] = 20; T <- 24. -/
def execStep23 (s : State) : Host.Outcome State Fault Refusal :=
  runStep roundG 4 0xE7D3FBC8 20 24 s

/-- STEP24 (R134): function G, M[9], K[24] = 0x21E1CDE6, S[24] = 5; T <- 25. -/
def execStep24 (s : State) : Host.Outcome State Fault Refusal :=
  runStep roundG 9 0x21E1CDE6 5 25 s

/-- STEP25 (R135): function G, M[14], K[25] = 0xC33707D6, S[25] = 9; T <- 26. -/
def execStep25 (s : State) : Host.Outcome State Fault Refusal :=
  runStep roundG 14 0xC33707D6 9 26 s

/-- STEP26 (R136): function G, M[3], K[26] = 0xF4D50D87, S[26] = 14; T <- 27. -/
def execStep26 (s : State) : Host.Outcome State Fault Refusal :=
  runStep roundG 3 0xF4D50D87 14 27 s

/-- STEP27 (R137): function G, M[8], K[27] = 0x455A14ED, S[27] = 20; T <- 28. -/
def execStep27 (s : State) : Host.Outcome State Fault Refusal :=
  runStep roundG 8 0x455A14ED 20 28 s

/-- STEP28 (R138): function G, M[13], K[28] = 0xA9E3E905, S[28] = 5; T <- 29. -/
def execStep28 (s : State) : Host.Outcome State Fault Refusal :=
  runStep roundG 13 0xA9E3E905 5 29 s

/-- STEP29 (R139): function G, M[2], K[29] = 0xFCEFA3F8, S[29] = 9; T <- 30. -/
def execStep29 (s : State) : Host.Outcome State Fault Refusal :=
  runStep roundG 2 0xFCEFA3F8 9 30 s

/-- STEP30 (R140): function G, M[7], K[30] = 0x676F02D9, S[30] = 14; T <- 31. -/
def execStep30 (s : State) : Host.Outcome State Fault Refusal :=
  runStep roundG 7 0x676F02D9 14 31 s

/-- STEP31 (R141): function G, M[12], K[31] = 0x8D2A4C8A, S[31] = 20; T <- 32. -/
def execStep31 (s : State) : Host.Outcome State Fault Refusal :=
  runStep roundG 12 0x8D2A4C8A 20 32 s

/-- STEP32 (R142): function Hfn, M[5], K[32] = 0xFFFA3942, S[32] = 4; T <- 33. -/
def execStep32 (s : State) : Host.Outcome State Fault Refusal :=
  runStep roundH 5 0xFFFA3942 4 33 s

/-- STEP33 (R143): function Hfn, M[8], K[33] = 0x8771F681, S[33] = 11; T <- 34. -/
def execStep33 (s : State) : Host.Outcome State Fault Refusal :=
  runStep roundH 8 0x8771F681 11 34 s

/-- STEP34 (R144): function Hfn, M[11], K[34] = 0x6D9D6122, S[34] = 16; T <- 35. -/
def execStep34 (s : State) : Host.Outcome State Fault Refusal :=
  runStep roundH 11 0x6D9D6122 16 35 s

/-- STEP35 (R145): function Hfn, M[14], K[35] = 0xFDE5380C, S[35] = 23; T <- 36. -/
def execStep35 (s : State) : Host.Outcome State Fault Refusal :=
  runStep roundH 14 0xFDE5380C 23 36 s

/-- STEP36 (R146): function Hfn, M[1], K[36] = 0xA4BEEA44, S[36] = 4; T <- 37. -/
def execStep36 (s : State) : Host.Outcome State Fault Refusal :=
  runStep roundH 1 0xA4BEEA44 4 37 s

/-- STEP37 (R147): function Hfn, M[4], K[37] = 0x4BDECFA9, S[37] = 11; T <- 38. -/
def execStep37 (s : State) : Host.Outcome State Fault Refusal :=
  runStep roundH 4 0x4BDECFA9 11 38 s

/-- STEP38 (R148): function Hfn, M[7], K[38] = 0xF6BB4B60, S[38] = 16; T <- 39. -/
def execStep38 (s : State) : Host.Outcome State Fault Refusal :=
  runStep roundH 7 0xF6BB4B60 16 39 s

/-- STEP39 (R149): function Hfn, M[10], K[39] = 0xBEBFBC70, S[39] = 23; T <- 40. -/
def execStep39 (s : State) : Host.Outcome State Fault Refusal :=
  runStep roundH 10 0xBEBFBC70 23 40 s

/-- STEP40 (R150): function Hfn, M[13], K[40] = 0x289B7EC6, S[40] = 4; T <- 41. -/
def execStep40 (s : State) : Host.Outcome State Fault Refusal :=
  runStep roundH 13 0x289B7EC6 4 41 s

/-- STEP41 (R151): function Hfn, M[0], K[41] = 0xEAA127FA, S[41] = 11; T <- 42. -/
def execStep41 (s : State) : Host.Outcome State Fault Refusal :=
  runStep roundH 0 0xEAA127FA 11 42 s

/-- STEP42 (R152): function Hfn, M[3], K[42] = 0xD4EF3085, S[42] = 16; T <- 43. -/
def execStep42 (s : State) : Host.Outcome State Fault Refusal :=
  runStep roundH 3 0xD4EF3085 16 43 s

/-- STEP43 (R153): function Hfn, M[6], K[43] = 0x04881D05, S[43] = 23; T <- 44. -/
def execStep43 (s : State) : Host.Outcome State Fault Refusal :=
  runStep roundH 6 0x04881D05 23 44 s

/-- STEP44 (R154): function Hfn, M[9], K[44] = 0xD9D4D039, S[44] = 4; T <- 45. -/
def execStep44 (s : State) : Host.Outcome State Fault Refusal :=
  runStep roundH 9 0xD9D4D039 4 45 s

/-- STEP45 (R155): function Hfn, M[12], K[45] = 0xE6DB99E5, S[45] = 11; T <- 46. -/
def execStep45 (s : State) : Host.Outcome State Fault Refusal :=
  runStep roundH 12 0xE6DB99E5 11 46 s

/-- STEP46 (R156): function Hfn, M[15], K[46] = 0x1FA27CF8, S[46] = 16; T <- 47. -/
def execStep46 (s : State) : Host.Outcome State Fault Refusal :=
  runStep roundH 15 0x1FA27CF8 16 47 s

/-- STEP47 (R157): function Hfn, M[2], K[47] = 0xC4AC5665, S[47] = 23; T <- 48. -/
def execStep47 (s : State) : Host.Outcome State Fault Refusal :=
  runStep roundH 2 0xC4AC5665 23 48 s

/-- STEP48 (R158): function I, M[0], K[48] = 0xF4292244, S[48] = 6; T <- 49. -/
def execStep48 (s : State) : Host.Outcome State Fault Refusal :=
  runStep roundI 0 0xF4292244 6 49 s

/-- STEP49 (R159): function I, M[7], K[49] = 0x432AFF97, S[49] = 10; T <- 50. -/
def execStep49 (s : State) : Host.Outcome State Fault Refusal :=
  runStep roundI 7 0x432AFF97 10 50 s

/-- STEP50 (R160): function I, M[14], K[50] = 0xAB9423A7, S[50] = 15; T <- 51. -/
def execStep50 (s : State) : Host.Outcome State Fault Refusal :=
  runStep roundI 14 0xAB9423A7 15 51 s

/-- STEP51 (R161): function I, M[5], K[51] = 0xFC93A039, S[51] = 21; T <- 52. -/
def execStep51 (s : State) : Host.Outcome State Fault Refusal :=
  runStep roundI 5 0xFC93A039 21 52 s

/-- STEP52 (R162): function I, M[12], K[52] = 0x655B59C3, S[52] = 6; T <- 53. -/
def execStep52 (s : State) : Host.Outcome State Fault Refusal :=
  runStep roundI 12 0x655B59C3 6 53 s

/-- STEP53 (R163): function I, M[3], K[53] = 0x8F0CCC92, S[53] = 10; T <- 54. -/
def execStep53 (s : State) : Host.Outcome State Fault Refusal :=
  runStep roundI 3 0x8F0CCC92 10 54 s

/-- STEP54 (R164): function I, M[10], K[54] = 0xFFEFF47D, S[54] = 15; T <- 55. -/
def execStep54 (s : State) : Host.Outcome State Fault Refusal :=
  runStep roundI 10 0xFFEFF47D 15 55 s

/-- STEP55 (R165): function I, M[1], K[55] = 0x85845DD1, S[55] = 21; T <- 56. -/
def execStep55 (s : State) : Host.Outcome State Fault Refusal :=
  runStep roundI 1 0x85845DD1 21 56 s

/-- STEP56 (R166): function I, M[8], K[56] = 0x6FA87E4F, S[56] = 6; T <- 57. -/
def execStep56 (s : State) : Host.Outcome State Fault Refusal :=
  runStep roundI 8 0x6FA87E4F 6 57 s

/-- STEP57 (R167): function I, M[15], K[57] = 0xFE2CE6E0, S[57] = 10; T <- 58. -/
def execStep57 (s : State) : Host.Outcome State Fault Refusal :=
  runStep roundI 15 0xFE2CE6E0 10 58 s

/-- STEP58 (R168): function I, M[6], K[58] = 0xA3014314, S[58] = 15; T <- 59. -/
def execStep58 (s : State) : Host.Outcome State Fault Refusal :=
  runStep roundI 6 0xA3014314 15 59 s

/-- STEP59 (R169): function I, M[13], K[59] = 0x4E0811A1, S[59] = 21; T <- 60. -/
def execStep59 (s : State) : Host.Outcome State Fault Refusal :=
  runStep roundI 13 0x4E0811A1 21 60 s

/-- STEP60 (R170): function I, M[4], K[60] = 0xF7537E82, S[60] = 6; T <- 61. -/
def execStep60 (s : State) : Host.Outcome State Fault Refusal :=
  runStep roundI 4 0xF7537E82 6 61 s

/-- STEP61 (R171): function I, M[11], K[61] = 0xBD3AF235, S[61] = 10; T <- 62. -/
def execStep61 (s : State) : Host.Outcome State Fault Refusal :=
  runStep roundI 11 0xBD3AF235 10 62 s

/-- STEP62 (R172): function I, M[2], K[62] = 0x2AD7D2BB, S[62] = 15; T <- 63. -/
def execStep62 (s : State) : Host.Outcome State Fault Refusal :=
  runStep roundI 2 0x2AD7D2BB 15 63 s

/-- STEP63 (R173): function I, M[9], K[63] = 0xEB86D391, S[63] = 21; "then the add-back" of R107, "and the
compression ends" (opcode table). T stays 63 (R109; log 5). -/
def execStep63 (s : State) : Host.Outcome State Fault Refusal :=
  andThen (runStep roundI 9 0xEB86D391 21 63 s) fun s' => .next (addBack s')

end Sys2Proof.Machine
end

