-- ==== Sys2Proof/Machine/Fetch.lean ====
section
/-! DEFINITION. What the engine does next (10_state.md R34: there is no program counter): STEP T while
a compression is in progress, otherwise what the host does next at the ports. Also the placing of one
instruction there, for the host of the model. -/

namespace Sys2Proof.Machine

/-- What comes next. -/
inductive Next where
  /-- The instruction with this code word runs, in this state. -/
  | run (c : CodeWord) (s : State)
  /-- No instruction runs: the state that follows. -/
  | outside (s : State)
deriving DecidableEq, Repr

/-- Is this a reset? -/
def HostEvent.isReset : HostEvent → Bool
  | .cmd _ => false
  | .reset => true
  | .resetDuring _ => true
  | .transfer => false
  | .sample => false

/-- While a compression is in progress, only a reset acts ("it is the only thing that can cut a block
short", 70 R241); a command, a transfer or a sample waits (30 R76, 70 R243; log 2), and STEP T runs
(30 R77). -/
def nextRunning (s : State) : Next :=
  match s.port with
  | e :: rest => if e.isReset then .outside (resetBy { s with port := rest }) else .run (.sel s.t) s
  | [] => .run (.sel s.t) s

/-- The host's event at the ports of an engine that is ready: a command word is accepted and run (30
R76); a reset replaces the state, and takes an unanswered command with it (70 R240, R241); the response
word is transferred (30 R70); a sample is taken (70 R243). -/
def nextEvent (e : HostEvent) (s : State) : Next :=
  match e with
  | .cmd w => .run (.cmd w) s
  | .reset => .outside (resetBy s)
  | .resetDuring _ => .outside (resetBy s)
  | .transfer => .outside (transferRsp s)
  | .sample => .outside (takeSample s)

/-- A ready engine: with nothing at its ports it "simply holds its state" (60 R231). -/
def nextReady (s : State) : Next :=
  match s.port with
  | e :: rest => nextEvent e { s with port := rest }
  | [] => .outside s

/-- What comes next in a state. -/
def fetch (s : State) : Next := if s.running then nextRunning s else nextReady s

/-- BUF with the cells that hold no value filled with 0x00 (log 13). Only for placing a step: no
instruction does this. -/
def fillBlock (m : List Host.Cell) : List Host.Cell :=
  cellsFrom 0 ((List.range 64).map fun a => (readByte m a).getD 0)

/-- The state with this code word placed so that the next step runs it. A command word: the engine is
ready and the word is the host's next event. A step: a compression is in progress at that T, on a full
block, and no reset stands before it (log 13). -/
def placeCode (s : State) : CodeWord → State
  | .cmd w => { s with running := false, port := .cmd w :: s.port }
  | .sel t => { s with running := true, t := t, buf := fillBlock s.buf,
                       port := s.port.dropWhile HostEvent.isReset }

end Sys2Proof.Machine
end

