-- ==== Sys2Proof/Machine/Step.lean ====
section
/-! DEFINITION. One step of the engine, and the placing of one word of the opcode table. -/

namespace Sys2Proof.Machine

/-- One step: the instruction that comes next, or what the host does instead. -/
def step (s : State) : Host.Outcome State Fault Refusal :=
  match fetch s with
  | .run c s' => exec (decode c) s'
  | .outside s' => .next s'

/-- `s` with a word of the opcode table placed so that the next step runs it; `s` itself when the word
is no code word (logs 3, 13). -/
def State.withFetchWord (s : State) (nbits w : Nat) : State :=
  match tableCodeWord nbits w with
  | some c => placeCode s c
  | none => s

end Sys2Proof.Machine
end

