-- ==== Sys2Proof/Laws/State.lean ====
section
/-! SUPPORT. One lemma per field per named update of the state, so that no proof unfolds a record
update. -/

namespace Sys2Proof.Machine

@[simp] theorem respond_h (e : Bool) (r : Byte) (s : State) : (respond e r s).h = s.h := rfl
@[simp] theorem respond_buf (e : Bool) (r : Byte) (s : State) : (respond e r s).buf = s.buf := rfl
@[simp] theorem respond_len (e : Bool) (r : Byte) (s : State) : (respond e r s).len = s.len := rfl
@[simp] theorem respond_bitcnt (e : Bool) (r : Byte) (s : State) : (respond e r s).bitcnt = s.bitcnt := rfl
@[simp] theorem respond_fin (e : Bool) (r : Byte) (s : State) : (respond e r s).fin = s.fin := rfl
@[simp] theorem respond_uerr (e : Bool) (r : Byte) (s : State) : (respond e r s).uerr = s.uerr := rfl
@[simp] theorem respond_work (e : Bool) (r : Byte) (s : State) : (respond e r s).work = s.work := rfl
@[simp] theorem respond_t (e : Bool) (r : Byte) (s : State) : (respond e r s).t = s.t := rfl
@[simp] theorem respond_running (e : Bool) (r : Byte) (s : State) : (respond e r s).running = s.running := rfl
@[simp] theorem respond_rsp (e : Bool) (r : Byte) (s : State) : (respond e r s).rsp = some (responseWord e r) := rfl
@[simp] theorem respond_port (e : Bool) (r : Byte) (s : State) : (respond e r s).port = s.port := rfl
@[simp] theorem respond_sent (e : Bool) (r : Byte) (s : State) : (respond e r s).sent = s.sent ++ [responseWord e r] := rfl
@[simp] theorem respond_seen (e : Bool) (r : Byte) (s : State) : (respond e r s).seen = s.seen := rfl
@[simp] theorem respond_draws (e : Bool) (r : Byte) (s : State) : (respond e r s).draws = s.draws := rfl

@[simp] theorem raiseUsageError_h (s : State) : (raiseUsageError s).h = s.h := rfl
@[simp] theorem raiseUsageError_buf (s : State) : (raiseUsageError s).buf = s.buf := rfl
@[simp] theorem raiseUsageError_len (s : State) : (raiseUsageError s).len = s.len := rfl
@[simp] theorem raiseUsageError_bitcnt (s : State) : (raiseUsageError s).bitcnt = s.bitcnt := rfl
@[simp] theorem raiseUsageError_fin (s : State) : (raiseUsageError s).fin = s.fin := rfl
@[simp] theorem raiseUsageError_uerr (s : State) : (raiseUsageError s).uerr = true := rfl
@[simp] theorem raiseUsageError_work (s : State) : (raiseUsageError s).work = s.work := rfl
@[simp] theorem raiseUsageError_t (s : State) : (raiseUsageError s).t = s.t := rfl
@[simp] theorem raiseUsageError_running (s : State) : (raiseUsageError s).running = s.running := rfl
@[simp] theorem raiseUsageError_rsp (s : State) : (raiseUsageError s).rsp = some (responseWord true 0) := rfl
@[simp] theorem raiseUsageError_port (s : State) : (raiseUsageError s).port = s.port := rfl
@[simp] theorem raiseUsageError_sent (s : State) : (raiseUsageError s).sent = s.sent ++ [responseWord true 0] := rfl
@[simp] theorem raiseUsageError_seen (s : State) : (raiseUsageError s).seen = s.seen := rfl
@[simp] theorem raiseUsageError_draws (s : State) : (raiseUsageError s).draws = s.draws := rfl

@[simp] theorem loadWork_h (s : State) : (loadWork s).h = s.h := rfl
@[simp] theorem loadWork_buf (s : State) : (loadWork s).buf = s.buf := rfl
@[simp] theorem loadWork_len (s : State) : (loadWork s).len = s.len := rfl
@[simp] theorem loadWork_bitcnt (s : State) : (loadWork s).bitcnt = s.bitcnt := rfl
@[simp] theorem loadWork_fin (s : State) : (loadWork s).fin = s.fin := rfl
@[simp] theorem loadWork_uerr (s : State) : (loadWork s).uerr = s.uerr := rfl
@[simp] theorem loadWork_work (s : State) : (loadWork s).work = s.h := rfl
@[simp] theorem loadWork_t (s : State) : (loadWork s).t = 0 := rfl
@[simp] theorem loadWork_running (s : State) : (loadWork s).running = true := rfl
@[simp] theorem loadWork_rsp (s : State) : (loadWork s).rsp = s.rsp := rfl
@[simp] theorem loadWork_port (s : State) : (loadWork s).port = s.port := rfl
@[simp] theorem loadWork_sent (s : State) : (loadWork s).sent = s.sent := rfl
@[simp] theorem loadWork_seen (s : State) : (loadWork s).seen = s.seen := rfl
@[simp] theorem loadWork_draws (s : State) : (loadWork s).draws = s.draws := rfl

@[simp] theorem addBack_h (s : State) : (addBack s).h = quadAdd s.h s.work := rfl
@[simp] theorem addBack_buf (s : State) : (addBack s).buf = s.buf := rfl
@[simp] theorem addBack_len (s : State) : (addBack s).len = s.len := rfl
@[simp] theorem addBack_bitcnt (s : State) : (addBack s).bitcnt = s.bitcnt := rfl
@[simp] theorem addBack_fin (s : State) : (addBack s).fin = s.fin := rfl
@[simp] theorem addBack_uerr (s : State) : (addBack s).uerr = s.uerr := rfl
@[simp] theorem addBack_work (s : State) : (addBack s).work = s.work := rfl
@[simp] theorem addBack_t (s : State) : (addBack s).t = s.t := rfl
@[simp] theorem addBack_running (s : State) : (addBack s).running = false := rfl
@[simp] theorem addBack_rsp (s : State) : (addBack s).rsp = s.rsp := rfl
@[simp] theorem addBack_port (s : State) : (addBack s).port = s.port := rfl
@[simp] theorem addBack_sent (s : State) : (addBack s).sent = s.sent := rfl
@[simp] theorem addBack_seen (s : State) : (addBack s).seen = s.seen := rfl
@[simp] theorem addBack_draws (s : State) : (addBack s).draws = s.draws := rfl

@[simp] theorem storeOctet_h (x : Byte) (s : State) : (storeOctet x s).h = s.h := rfl
@[simp] theorem storeOctet_buf (x : Byte) (s : State) : (storeOctet x s).buf = writeByte s.buf s.len.toNat x := rfl
@[simp] theorem storeOctet_len (x : Byte) (s : State) : (storeOctet x s).len = s.len := rfl
@[simp] theorem storeOctet_bitcnt (x : Byte) (s : State) : (storeOctet x s).bitcnt = s.bitcnt + 8 := rfl
@[simp] theorem storeOctet_fin (x : Byte) (s : State) : (storeOctet x s).fin = s.fin := rfl
@[simp] theorem storeOctet_uerr (x : Byte) (s : State) : (storeOctet x s).uerr = s.uerr := rfl
@[simp] theorem storeOctet_work (x : Byte) (s : State) : (storeOctet x s).work = s.work := rfl
@[simp] theorem storeOctet_t (x : Byte) (s : State) : (storeOctet x s).t = s.t := rfl
@[simp] theorem storeOctet_running (x : Byte) (s : State) : (storeOctet x s).running = s.running := rfl
@[simp] theorem storeOctet_rsp (x : Byte) (s : State) : (storeOctet x s).rsp = s.rsp := rfl
@[simp] theorem storeOctet_port (x : Byte) (s : State) : (storeOctet x s).port = s.port := rfl
@[simp] theorem storeOctet_sent (x : Byte) (s : State) : (storeOctet x s).sent = s.sent := rfl
@[simp] theorem storeOctet_seen (x : Byte) (s : State) : (storeOctet x s).seen = s.seen := rfl
@[simp] theorem storeOctet_draws (x : Byte) (s : State) : (storeOctet x s).draws = s.draws := rfl

@[simp] theorem emptyBuffer_h (s : State) : (emptyBuffer s).h = s.h := rfl
@[simp] theorem emptyBuffer_buf (s : State) : (emptyBuffer s).buf = [] := rfl
@[simp] theorem emptyBuffer_len (s : State) : (emptyBuffer s).len = 0 := rfl
@[simp] theorem emptyBuffer_bitcnt (s : State) : (emptyBuffer s).bitcnt = s.bitcnt := rfl
@[simp] theorem emptyBuffer_fin (s : State) : (emptyBuffer s).fin = s.fin := rfl
@[simp] theorem emptyBuffer_uerr (s : State) : (emptyBuffer s).uerr = s.uerr := rfl
@[simp] theorem emptyBuffer_work (s : State) : (emptyBuffer s).work = s.work := rfl
@[simp] theorem emptyBuffer_t (s : State) : (emptyBuffer s).t = s.t := rfl
@[simp] theorem emptyBuffer_running (s : State) : (emptyBuffer s).running = s.running := rfl
@[simp] theorem emptyBuffer_rsp (s : State) : (emptyBuffer s).rsp = s.rsp := rfl
@[simp] theorem emptyBuffer_port (s : State) : (emptyBuffer s).port = s.port := rfl
@[simp] theorem emptyBuffer_sent (s : State) : (emptyBuffer s).sent = s.sent := rfl
@[simp] theorem emptyBuffer_seen (s : State) : (emptyBuffer s).seen = s.seen := rfl
@[simp] theorem emptyBuffer_draws (s : State) : (emptyBuffer s).draws = s.draws := rfl

@[simp] theorem advanceLen_h (s : State) : (advanceLen s).h = s.h := rfl
@[simp] theorem advanceLen_buf (s : State) : (advanceLen s).buf = s.buf := rfl
@[simp] theorem advanceLen_len (s : State) : (advanceLen s).len = s.len + 1 := rfl
@[simp] theorem advanceLen_bitcnt (s : State) : (advanceLen s).bitcnt = s.bitcnt := rfl
@[simp] theorem advanceLen_fin (s : State) : (advanceLen s).fin = s.fin := rfl
@[simp] theorem advanceLen_uerr (s : State) : (advanceLen s).uerr = s.uerr := rfl
@[simp] theorem advanceLen_work (s : State) : (advanceLen s).work = s.work := rfl
@[simp] theorem advanceLen_t (s : State) : (advanceLen s).t = s.t := rfl
@[simp] theorem advanceLen_running (s : State) : (advanceLen s).running = s.running := rfl
@[simp] theorem advanceLen_rsp (s : State) : (advanceLen s).rsp = s.rsp := rfl
@[simp] theorem advanceLen_port (s : State) : (advanceLen s).port = s.port := rfl
@[simp] theorem advanceLen_sent (s : State) : (advanceLen s).sent = s.sent := rfl
@[simp] theorem advanceLen_seen (s : State) : (advanceLen s).seen = s.seen := rfl
@[simp] theorem advanceLen_draws (s : State) : (advanceLen s).draws = s.draws := rfl

@[simp] theorem initialise_h (s : State) : (initialise s).h = iv := rfl
@[simp] theorem initialise_buf (s : State) : (initialise s).buf = [] := rfl
@[simp] theorem initialise_len (s : State) : (initialise s).len = 0 := rfl
@[simp] theorem initialise_bitcnt (s : State) : (initialise s).bitcnt = 0 := rfl
@[simp] theorem initialise_fin (s : State) : (initialise s).fin = false := rfl
@[simp] theorem initialise_uerr (s : State) : (initialise s).uerr = false := rfl
@[simp] theorem initialise_work (s : State) : (initialise s).work = s.work := rfl
@[simp] theorem initialise_t (s : State) : (initialise s).t = s.t := rfl
@[simp] theorem initialise_running (s : State) : (initialise s).running = s.running := rfl
@[simp] theorem initialise_rsp (s : State) : (initialise s).rsp = s.rsp := rfl
@[simp] theorem initialise_port (s : State) : (initialise s).port = s.port := rfl
@[simp] theorem initialise_sent (s : State) : (initialise s).sent = s.sent := rfl
@[simp] theorem initialise_seen (s : State) : (initialise s).seen = s.seen := rfl
@[simp] theorem initialise_draws (s : State) : (initialise s).draws = s.draws := rfl

@[simp] theorem finalise_h (s : State) : (finalise s).h = s.h := rfl
@[simp] theorem finalise_buf (s : State) : (finalise s).buf = [] := rfl
@[simp] theorem finalise_len (s : State) : (finalise s).len = 0 := rfl
@[simp] theorem finalise_bitcnt (s : State) : (finalise s).bitcnt = s.bitcnt := rfl
@[simp] theorem finalise_fin (s : State) : (finalise s).fin = true := rfl
@[simp] theorem finalise_uerr (s : State) : (finalise s).uerr = s.uerr := rfl
@[simp] theorem finalise_work (s : State) : (finalise s).work = s.work := rfl
@[simp] theorem finalise_t (s : State) : (finalise s).t = s.t := rfl
@[simp] theorem finalise_running (s : State) : (finalise s).running = s.running := rfl
@[simp] theorem finalise_rsp (s : State) : (finalise s).rsp = s.rsp := rfl
@[simp] theorem finalise_port (s : State) : (finalise s).port = s.port := rfl
@[simp] theorem finalise_sent (s : State) : (finalise s).sent = s.sent := rfl
@[simp] theorem finalise_seen (s : State) : (finalise s).seen = s.seen := rfl
@[simp] theorem finalise_draws (s : State) : (finalise s).draws = s.draws := rfl

@[simp] theorem resetBy_h (s : State) : (resetBy s).h = iv := rfl
@[simp] theorem resetBy_buf (s : State) : (resetBy s).buf = [] := rfl
@[simp] theorem resetBy_len (s : State) : (resetBy s).len = 0 := rfl
@[simp] theorem resetBy_bitcnt (s : State) : (resetBy s).bitcnt = 0 := rfl
@[simp] theorem resetBy_fin (s : State) : (resetBy s).fin = false := rfl
@[simp] theorem resetBy_uerr (s : State) : (resetBy s).uerr = false := rfl
@[simp] theorem resetBy_work (s : State) : (resetBy s).work = ⟨0, 0, 0, 0⟩ := rfl
@[simp] theorem resetBy_t (s : State) : (resetBy s).t = 0 := rfl
@[simp] theorem resetBy_running (s : State) : (resetBy s).running = false := rfl
@[simp] theorem resetBy_rsp (s : State) : (resetBy s).rsp = none := rfl
@[simp] theorem resetBy_port (s : State) : (resetBy s).port = s.port := rfl
@[simp] theorem resetBy_sent (s : State) : (resetBy s).sent = s.sent := rfl
@[simp] theorem resetBy_seen (s : State) : (resetBy s).seen = s.seen := rfl
@[simp] theorem resetBy_draws (s : State) : (resetBy s).draws = s.draws := rfl

@[simp] theorem transferRsp_h (s : State) : (transferRsp s).h = s.h := rfl
@[simp] theorem transferRsp_buf (s : State) : (transferRsp s).buf = s.buf := rfl
@[simp] theorem transferRsp_len (s : State) : (transferRsp s).len = s.len := rfl
@[simp] theorem transferRsp_bitcnt (s : State) : (transferRsp s).bitcnt = s.bitcnt := rfl
@[simp] theorem transferRsp_fin (s : State) : (transferRsp s).fin = s.fin := rfl
@[simp] theorem transferRsp_uerr (s : State) : (transferRsp s).uerr = s.uerr := rfl
@[simp] theorem transferRsp_work (s : State) : (transferRsp s).work = s.work := rfl
@[simp] theorem transferRsp_t (s : State) : (transferRsp s).t = s.t := rfl
@[simp] theorem transferRsp_running (s : State) : (transferRsp s).running = s.running := rfl
@[simp] theorem transferRsp_rsp (s : State) : (transferRsp s).rsp = none := rfl
@[simp] theorem transferRsp_port (s : State) : (transferRsp s).port = s.port := rfl
@[simp] theorem transferRsp_sent (s : State) : (transferRsp s).sent = s.sent := rfl
@[simp] theorem transferRsp_seen (s : State) : (transferRsp s).seen = s.seen := rfl
@[simp] theorem transferRsp_draws (s : State) : (transferRsp s).draws = s.draws := rfl

@[simp] theorem takeSample_h (s : State) : (takeSample s).h = s.h := rfl
@[simp] theorem takeSample_buf (s : State) : (takeSample s).buf = s.buf := rfl
@[simp] theorem takeSample_len (s : State) : (takeSample s).len = s.len := rfl
@[simp] theorem takeSample_bitcnt (s : State) : (takeSample s).bitcnt = s.bitcnt := rfl
@[simp] theorem takeSample_fin (s : State) : (takeSample s).fin = s.fin := rfl
@[simp] theorem takeSample_uerr (s : State) : (takeSample s).uerr = s.uerr := rfl
@[simp] theorem takeSample_work (s : State) : (takeSample s).work = s.work := rfl
@[simp] theorem takeSample_t (s : State) : (takeSample s).t = s.t := rfl
@[simp] theorem takeSample_running (s : State) : (takeSample s).running = s.running := rfl
@[simp] theorem takeSample_rsp (s : State) : (takeSample s).rsp = s.rsp := rfl
@[simp] theorem takeSample_port (s : State) : (takeSample s).port = s.port := rfl
@[simp] theorem takeSample_sent (s : State) : (takeSample s).sent = s.sent := rfl
@[simp] theorem takeSample_seen (s : State) : (takeSample s).seen = s.seen ++ [outputs s] := rfl
@[simp] theorem takeSample_draws (s : State) : (takeSample s).draws = s.draws + 1 := rfl

end Sys2Proof.Machine
end

