-- ==== Sys2Proof/Laws/Memory.lean ====
section
/-! SUPPORT. BUF: a read after a write, what a write leaves alone, the canonical form, and the cells
that a run of octets fills (20_memory.md R54, R55). -/

namespace Sys2Proof.Machine

@[simp] theorem readByte_nil (a : Nat) : readByte [] a = none := rfl

@[simp] theorem readByte_noCells (a : Nat) : readByte noCells a = none := rfl

/-- A read after a write to the same cell gives the octet written. -/
@[simp] theorem readByte_writeByte_same (m : List Host.Cell) (a : Nat) (v : Byte) :
    readByte (writeByte m a v) a = some v := by
  induction m with
  | nil => simp [writeByte, readByte]
  | cons c r ih =>
    simp only [writeByte]
    split
    · simp [readByte]
    · split
      · simp [readByte]
      · rename_i h1 h2
        simp [readByte, Ne.symm h2, ih]

/-- A write leaves every other cell alone. -/
theorem readByte_writeByte_other (m : List Host.Cell) {a b : Nat} (v : Byte) (h : b ≠ a) :
    readByte (writeByte m a v) b = readByte m b := by
  induction m with
  | nil => simp [writeByte, readByte, Ne.symm h]
  | cons c r ih =>
    simp only [writeByte]
    split
    · simp [readByte, Ne.symm h]
    · split
      · rename_i h1 h2
        simp [readByte, Ne.symm h, ← h2]
      · simp [readByte, ih]

theorem Memory.wf_nil : Memory.wf [] = true := rfl

theorem Memory.wf_tail {c : Host.Cell} {r : List Host.Cell} (h : Memory.wf (c :: r) = true) :
    Memory.wf r = true := by
  cases r with
  | nil => rfl
  | cons d r => simp [Memory.wf] at h; exact h.2

theorem Memory.wf_cons_iff {c d : Host.Cell} {r : List Host.Cell} :
    Memory.wf (c :: d :: r) = true ↔ c.1 < d.1 ∧ Memory.wf (d :: r) = true := by
  simp [Memory.wf]

theorem Memory.wf_replace {c d : Host.Cell} {r : List Host.Cell} (hcd : d.1 = c.1)
    (h : Memory.wf (c :: r) = true) : Memory.wf (d :: r) = true := by
  cases r with
  | nil => simpa [Memory.wf, hcd] using h
  | cons e r => simpa [Memory.wf, hcd] using h

theorem writeByte_head (m : List Host.Cell) (a : Nat) (v : Byte) :
    ∃ d r, writeByte m a v = d :: r ∧ (d.1 = a ∨ ∃ c r', m = c :: r' ∧ d = c ∧ c.1 < a) := by
  cases m with
  | nil => exact ⟨_, _, rfl, .inl rfl⟩
  | cons c r =>
    simp only [writeByte]
    split
    · exact ⟨_, _, rfl, .inl rfl⟩
    · split
      · exact ⟨_, _, rfl, .inl rfl⟩
      · exact ⟨_, _, rfl, .inr ⟨c, r, rfl, rfl, by omega⟩⟩

/-- A write to a cell 0..63 keeps the canonical form. -/
theorem Memory.wf_writeByte {m : List Host.Cell} {a : Nat} (v : Byte) (h : Memory.wf m = true)
    (ha : a < 64) : Memory.wf (writeByte m a v) = true := by
  induction m with
  | nil => simpa [writeByte, Memory.wf] using ha
  | cons c r ih =>
    simp only [writeByte]
    split
    · rename_i h1
      exact Memory.wf_cons_iff.2 ⟨h1, h⟩
    · split
      · rename_i h1 h2
        exact Memory.wf_replace h2 h
      · rename_i h1 h2
        have hw := ih (Memory.wf_tail h)
        obtain ⟨d, r', e, hd⟩ := writeByte_head r a v
        rw [e] at hw ⊢
        refine Memory.wf_cons_iff.2 ⟨?_, hw⟩
        rcases hd with hd | ⟨c', r'', hr, rfl, hlt⟩
        · omega
        · subst hr
          exact (Memory.wf_cons_iff.1 h).1

/-- Writes of octets inside BUF keep the canonical form. -/
theorem Memory.wf_writeBytes (vs : List Byte) {m : List Host.Cell} {a : Nat}
    (h : Memory.wf m = true) (ha : a + vs.length ≤ 64) :
    Memory.wf (writeBytes m a vs) = true := by
  induction vs generalizing m a with
  | nil => exact h
  | cons v vs ih =>
    simp only [List.length_cons] at ha
    exact ih (Memory.wf_writeByte v h (by omega)) (by omega)

/-! ### Runs of octets -/

theorem cellsFrom_append (a : Nat) (xs ys : List Byte) :
    cellsFrom a (xs ++ ys) = cellsFrom a xs ++ cellsFrom (a + xs.length) ys := by
  induction xs generalizing a with
  | nil => simp [cellsFrom]
  | cons x xs ih => simp [cellsFrom, ih, Nat.add_assoc, Nat.add_comm 1]

@[simp] theorem cellsFrom_length (a : Nat) (xs : List Byte) :
    (cellsFrom a xs).length = xs.length := by
  induction xs generalizing a with
  | nil => rfl
  | cons x xs ih => simp [cellsFrom, ih]

/-- The addresses of a run are consecutive. -/
theorem cellsFrom_addresses (a : Nat) (xs : List Byte) :
    (cellsFrom a xs).map Prod.fst = List.range' a xs.length := by
  induction xs generalizing a with
  | nil => rfl
  | cons x xs ih => simp [cellsFrom, ih, List.range'_succ]

theorem cellsFrom_addresses_zero (xs : List Byte) :
    (cellsFrom 0 xs).map Prod.fst = List.range xs.length := by
  rw [cellsFrom_addresses, List.range_eq_range']

/-- Memory whose addresses are consecutive is a run. -/
theorem eq_cellsFrom_of_addresses {m : List Host.Cell} {a n : Nat}
    (h : m.map Prod.fst = List.range' a n) : m = cellsFrom a (m.map Prod.snd) := by
  induction m generalizing a n with
  | nil => rfl
  | cons c r ih =>
    cases n with
    | zero => simp at h
    | succ n =>
      simp only [List.map_cons, List.range'_succ, List.cons.injEq] at h
      obtain ⟨h1, h2⟩ := h
      simp only [List.map_cons, cellsFrom, List.cons.injEq]
      exact ⟨by rw [← h1], ih h2⟩

theorem eq_cellsFrom_of_range {m : List Host.Cell} {n : Nat}
    (h : m.map Prod.fst = List.range n) : m = cellsFrom 0 (m.map Prod.snd) := by
  rw [List.range_eq_range'] at h
  exact eq_cellsFrom_of_addresses h

/-- A read inside a run. -/
theorem readByte_cellsFrom (a i : Nat) (xs : List Byte) :
    readByte (cellsFrom a xs) (a + i) = xs[i]? := by
  induction xs generalizing a i with
  | nil => simp [cellsFrom]
  | cons x xs ih =>
    cases i with
    | zero => simp [cellsFrom, readByte]
    | succ i =>
      have := ih (a + 1) i
      simp only [cellsFrom, readByte, show ¬ a = a + (i + 1) by omega, if_false]
      rw [show a + (i + 1) = a + 1 + i by omega, this]
      simp

@[simp] theorem readByte_cellsFrom_zero (i : Nat) (xs : List Byte) :
    readByte (cellsFrom 0 xs) i = xs[i]? := by
  simpa using readByte_cellsFrom 0 i xs

/-- A write just behind a run lengthens it. -/
theorem writeByte_cellsFrom_end (a : Nat) (xs : List Byte) (v : Byte) :
    writeByte (cellsFrom a xs) (a + xs.length) v = cellsFrom a (xs ++ [v]) := by
  induction xs generalizing a with
  | nil => simp [cellsFrom, writeByte]
  | cons x xs ih =>
    simp only [cellsFrom, writeByte, List.length_cons, List.cons_append]
    rw [if_neg (by omega), if_neg (by omega), show a + (xs.length + 1) = a + 1 + xs.length by omega,
      ih]

/-- Writes of octets just behind a run lengthen it. -/
theorem writeBytes_cellsFrom_end (a : Nat) (xs vs : List Byte) :
    writeBytes (cellsFrom a xs) (a + xs.length) vs = cellsFrom a (xs ++ vs) := by
  induction vs generalizing xs with
  | nil => simp [writeBytes]
  | cons v vs ih =>
    simp only [writeBytes]
    rw [writeByte_cellsFrom_end]
    have := ih (xs ++ [v])
    simp only [List.length_append, List.length_cons, List.length_nil, Nat.zero_add] at this
    rw [Nat.add_assoc, this]
    simp

/-- A write at the front of a run replaces its first octet and keeps the rest. -/
theorem writeByte_append_low (m r : List Host.Cell) (a : Nat) (v w : Byte)
    (hm : ∀ c ∈ m, c.1 < a) : writeByte (m ++ (a, w) :: r) a v = m ++ (a, v) :: r := by
  induction m with
  | nil => simp [writeByte]
  | cons c m ih =>
    have hc := hm c (by simp)
    simp only [List.cons_append, writeByte]
    rw [if_neg (by omega), if_neg (by omega), ih fun d hd => hm d (by simp [hd])]

theorem mem_cellsFrom_lt {a : Nat} {xs : List Byte} {c : Host.Cell} (h : c ∈ cellsFrom a xs) :
    c.1 < a + xs.length := by
  have : c.1 ∈ (cellsFrom a xs).map Prod.fst := List.mem_map_of_mem h
  rw [cellsFrom_addresses, List.mem_range'_1] at this
  exact this.2

theorem writeBytes_over (a : Nat) (done vs old : List Byte) (h : old.length = vs.length) :
    writeBytes (cellsFrom a (done ++ old)) (a + done.length) vs = cellsFrom a (done ++ vs) := by
  induction vs generalizing done old with
  | nil =>
    simp only [List.length_nil, List.length_eq_zero_iff] at h
    simp [writeBytes, h]
  | cons v vs ih =>
    cases old with
    | nil => simp at h
    | cons o old =>
      simp only [writeBytes]
      rw [cellsFrom_append]
      simp only [cellsFrom]
      rw [writeByte_append_low _ _ _ _ _ fun c hc => mem_cellsFrom_lt hc]
      have := ih (done ++ [v]) old (by simpa using h)
      rw [show done ++ v :: vs = (done ++ [v]) ++ vs by simp, ← this]
      rw [show done ++ [v] ++ old = done ++ v :: old by simp, cellsFrom_append]
      simp [cellsFrom, Nat.add_assoc]

/-- Octets written over a whole run replace it. -/
theorem writeBytes_cellsFrom_over (old vs : List Byte) (h : old.length = vs.length) :
    writeBytes (cellsFrom 0 old) 0 vs = cellsFrom 0 vs := by
  simpa using writeBytes_over 0 [] vs old h

theorem Memory.wf_cellsFrom (a : Nat) (xs : List Byte) (h : a + xs.length ≤ 64) :
    Memory.wf (cellsFrom a xs) = true := by
  have := Memory.wf_writeBytes xs Memory.wf_nil h
  have e := writeBytes_cellsFrom_end a [] xs
  simp only [cellsFrom, List.length_nil, Nat.add_zero, List.nil_append] at e
  rwa [e] at this

/-- The message word of a full block (10 R29, 20 R55). -/
theorem readWord_cellsFrom {blk : List Byte} (h : blk.length = 64) (j : BitVec 4) :
    readWord (cellsFrom 0 blk) j = some (blockWord blk j) := by
  have hj := j.isLt
  have get : ∀ i, i < 64 → blk[i]? = some (blk.getD i 0) := fun i hi => by
    rw [List.getD_eq_getElem?_getD, List.getElem?_eq_getElem (by omega)]; rfl
  simp only [readWord, readByte_cellsFrom_zero]
  rw [get _ (by omega), get _ (by omega), get _ (by omega), get _ (by omega)]
  rfl

end Sys2Proof.Machine
end

