-- ==== Sys2Proof/Laws/Steps.lean ====
section
/-! SUPPORT. Each step's meaning, written out from its own rule, is the step that the tables give for
its value of T (41_block_compressor.md R102, R110 to R173). -/

namespace Sys2Proof.Machine

theorem execStep0_eq_stepAt : execStep0 = stepAt 0 := rfl
theorem execStep1_eq_stepAt : execStep1 = stepAt 1 := rfl
theorem execStep2_eq_stepAt : execStep2 = stepAt 2 := rfl
theorem execStep3_eq_stepAt : execStep3 = stepAt 3 := rfl
theorem execStep4_eq_stepAt : execStep4 = stepAt 4 := rfl
theorem execStep5_eq_stepAt : execStep5 = stepAt 5 := rfl
theorem execStep6_eq_stepAt : execStep6 = stepAt 6 := rfl
theorem execStep7_eq_stepAt : execStep7 = stepAt 7 := rfl
theorem execStep8_eq_stepAt : execStep8 = stepAt 8 := rfl
theorem execStep9_eq_stepAt : execStep9 = stepAt 9 := rfl
theorem execStep10_eq_stepAt : execStep10 = stepAt 10 := rfl
theorem execStep11_eq_stepAt : execStep11 = stepAt 11 := rfl
theorem execStep12_eq_stepAt : execStep12 = stepAt 12 := rfl
theorem execStep13_eq_stepAt : execStep13 = stepAt 13 := rfl
theorem execStep14_eq_stepAt : execStep14 = stepAt 14 := rfl
theorem execStep15_eq_stepAt : execStep15 = stepAt 15 := rfl
theorem execStep16_eq_stepAt : execStep16 = stepAt 16 := rfl
theorem execStep17_eq_stepAt : execStep17 = stepAt 17 := rfl
theorem execStep18_eq_stepAt : execStep18 = stepAt 18 := rfl
theorem execStep19_eq_stepAt : execStep19 = stepAt 19 := rfl
theorem execStep20_eq_stepAt : execStep20 = stepAt 20 := rfl
theorem execStep21_eq_stepAt : execStep21 = stepAt 21 := rfl
theorem execStep22_eq_stepAt : execStep22 = stepAt 22 := rfl
theorem execStep23_eq_stepAt : execStep23 = stepAt 23 := rfl
theorem execStep24_eq_stepAt : execStep24 = stepAt 24 := rfl
theorem execStep25_eq_stepAt : execStep25 = stepAt 25 := rfl
theorem execStep26_eq_stepAt : execStep26 = stepAt 26 := rfl
theorem execStep27_eq_stepAt : execStep27 = stepAt 27 := rfl
theorem execStep28_eq_stepAt : execStep28 = stepAt 28 := rfl
theorem execStep29_eq_stepAt : execStep29 = stepAt 29 := rfl
theorem execStep30_eq_stepAt : execStep30 = stepAt 30 := rfl
theorem execStep31_eq_stepAt : execStep31 = stepAt 31 := rfl
theorem execStep32_eq_stepAt : execStep32 = stepAt 32 := rfl
theorem execStep33_eq_stepAt : execStep33 = stepAt 33 := rfl
theorem execStep34_eq_stepAt : execStep34 = stepAt 34 := rfl
theorem execStep35_eq_stepAt : execStep35 = stepAt 35 := rfl
theorem execStep36_eq_stepAt : execStep36 = stepAt 36 := rfl
theorem execStep37_eq_stepAt : execStep37 = stepAt 37 := rfl
theorem execStep38_eq_stepAt : execStep38 = stepAt 38 := rfl
theorem execStep39_eq_stepAt : execStep39 = stepAt 39 := rfl
theorem execStep40_eq_stepAt : execStep40 = stepAt 40 := rfl
theorem execStep41_eq_stepAt : execStep41 = stepAt 41 := rfl
theorem execStep42_eq_stepAt : execStep42 = stepAt 42 := rfl
theorem execStep43_eq_stepAt : execStep43 = stepAt 43 := rfl
theorem execStep44_eq_stepAt : execStep44 = stepAt 44 := rfl
theorem execStep45_eq_stepAt : execStep45 = stepAt 45 := rfl
theorem execStep46_eq_stepAt : execStep46 = stepAt 46 := rfl
theorem execStep47_eq_stepAt : execStep47 = stepAt 47 := rfl
theorem execStep48_eq_stepAt : execStep48 = stepAt 48 := rfl
theorem execStep49_eq_stepAt : execStep49 = stepAt 49 := rfl
theorem execStep50_eq_stepAt : execStep50 = stepAt 50 := rfl
theorem execStep51_eq_stepAt : execStep51 = stepAt 51 := rfl
theorem execStep52_eq_stepAt : execStep52 = stepAt 52 := rfl
theorem execStep53_eq_stepAt : execStep53 = stepAt 53 := rfl
theorem execStep54_eq_stepAt : execStep54 = stepAt 54 := rfl
theorem execStep55_eq_stepAt : execStep55 = stepAt 55 := rfl
theorem execStep56_eq_stepAt : execStep56 = stepAt 56 := rfl
theorem execStep57_eq_stepAt : execStep57 = stepAt 57 := rfl
theorem execStep58_eq_stepAt : execStep58 = stepAt 58 := rfl
theorem execStep59_eq_stepAt : execStep59 = stepAt 59 := rfl
theorem execStep60_eq_stepAt : execStep60 = stepAt 60 := rfl
theorem execStep61_eq_stepAt : execStep61 = stepAt 61 := rfl
theorem execStep62_eq_stepAt : execStep62 = stepAt 62 := rfl
theorem execStep63_eq_stepAt : execStep63 = stepAt 63 := rfl

end Sys2Proof.Machine
end

