-- ==== Sys2Proof/Laws/Compressor.lean ====
section
/-! SUPPORT. What the shared operations of the compressor can do (41_block_compressor.md R100 to R109),
said once: an inversion lemma for each, and Compress on a full block as the pure function of R108. -/

namespace Sys2Proof.Machine

@[simp] theorem andThen_next (s : State) (f : State → Answer) : andThen (.next s) f = f s := rfl

/-- If two operations in a row answer a next state, the first answered one and so did the second. -/
theorem andThen_eq_next {o : Answer} {f : State → Answer} {t : State} (h : andThen o f = .next t) :
    ∃ s, o = .next s ∧ f s = .next t := by
  cases o with
  | next s => exact ⟨s, rfl, h⟩
  | fault r => exact nomatch h
  | refused r => exact nomatch h

/-- If one step answers a next state, the message word was readable, and the step wrote the working
registers and T and nothing else. -/
theorem runStep_eq_next {f : Word → Word → Word → Word} {j : BitVec 4} {k : Word} {n : Nat}
    {next : BitVec 6} {s s' : State} (h : runStep f j k n next s = .next s') :
    ∃ m, readWord s.buf j = some m ∧ s' = { s with work := roundStep f m k n s.work, t := next } := by
  unfold runStep at h
  split at h
  · rename_i m hm
    exact ⟨m, hm, by simpa using h.symm⟩
  · exact nomatch h

/-- A step whose message word is readable answers a next state. -/
theorem runStep_of_word {j : BitVec 4} {s : State} {m : Word} (hm : readWord s.buf j = some m)
    (f : Word → Word → Word → Word) (k : Word) (n : Nat) (next : BitVec 6) :
    runStep f j k n next s = .next { s with work := roundStep f m k n s.work, t := next } := by
  simp [runStep, hm]

/-- A step with a dead cell in its message word faults. -/
theorem runStep_of_dead {j : BitVec 4} {s : State} (hm : readWord s.buf j = none)
    (f : Word → Word → Word → Word) (k : Word) (n : Nat) (next : BitVec 6) :
    runStep f j k n next s = .fault (.deadCell (4 * j.toNat)) := by
  simp [runStep, hm]

/-- Steps 0..62 on a readable message word (R102). -/
theorem stepAt_of_word {t : BitVec 6} (ht : t ≠ 63) {s : State} {m : Word}
    (hm : readWord s.buf (widx t) = some m) :
    stepAt t s = .next { s with
      work := roundStep (fnOf t).apply m (constOf t) (shiftOf t) s.work, t := t + 1 } := by
  rw [stepAt, if_neg ht, runStep_of_word hm]

/-- Step 63 on a readable message word: the step and then the add-back (R102, R107). -/
theorem stepAt_last_of_word {s : State} {m : Word} (hm : readWord s.buf (widx 63) = some m) :
    stepAt 63 s = .next (addBack { s with
      work := roundStep (fnOf 63).apply m (constOf 63) (shiftOf 63) s.work, t := 63 }) := by
  rw [stepAt, if_pos rfl, runStep_of_word hm, andThen_next]

/-- A step with a dead cell in its message word faults, whichever its T. -/
theorem stepAt_of_dead {t : BitVec 6} {s : State} (hm : readWord s.buf (widx t) = none) :
    stepAt t s = .fault (.deadCell (4 * (widx t).toNat)) := by
  unfold stepAt
  split <;> rw [runStep_of_dead hm]
  rfl

/-- The compressor's frame: the fields that no step and no part of Compress writes (R100, R108). -/
structure SameOutside (s t : State) : Prop where
  buf : t.buf = s.buf
  len : t.len = s.len
  bitcnt : t.bitcnt = s.bitcnt
  fin : t.fin = s.fin
  uerr : t.uerr = s.uerr
  rsp : t.rsp = s.rsp
  port : t.port = s.port
  sent : t.sent = s.sent
  seen : t.seen = s.seen
  draws : t.draws = s.draws

theorem SameOutside.refl (s : State) : SameOutside s s :=
  ⟨rfl, rfl, rfl, rfl, rfl, rfl, rfl, rfl, rfl, rfl⟩

theorem SameOutside.trans {s t u : State} (h : SameOutside s t) (k : SameOutside t u) :
    SameOutside s u :=
  ⟨k.buf.trans h.buf, k.len.trans h.len, k.bitcnt.trans h.bitcnt, k.fin.trans h.fin,
    k.uerr.trans h.uerr, k.rsp.trans h.rsp, k.port.trans h.port, k.sent.trans h.sent,
    k.seen.trans h.seen, k.draws.trans h.draws⟩

/-- Whatever a step does, it stays inside the compressor. -/
theorem stepAt_frame {t : BitVec 6} {s s' : State} (h : stepAt t s = .next s') : SameOutside s s' := by
  unfold stepAt at h
  split at h
  · obtain ⟨u, hu, h⟩ := andThen_eq_next h
    obtain ⟨m, -, rfl⟩ := runStep_eq_next hu
    cases h
    exact ⟨rfl, rfl, rfl, rfl, rfl, rfl, rfl, rfl, rfl, rfl⟩
  · obtain ⟨m, -, rfl⟩ := runStep_eq_next h
    exact ⟨rfl, rfl, rfl, rfl, rfl, rfl, rfl, rfl, rfl, rfl⟩

theorem runSteps_frame (n : Nat) {s t : State} (h : runSteps n s = .next t) : SameOutside s t := by
  induction n generalizing s with
  | zero => cases h; exact .refl _
  | succ n ih =>
    obtain ⟨u, hu, h⟩ := andThen_eq_next h
    exact (stepAt_frame hu).trans (ih h)

/-- Compress "writes H and the transient a, b, c, d, T, and nothing else" (R100). -/
theorem compress_frame {s t : State} (h : compress s = .next t) : SameOutside s t :=
  (show SameOutside s (loadWork s) from ⟨rfl, rfl, rfl, rfl, rfl, rfl, rfl, rfl, rfl, rfl⟩).trans
    (runSteps_frame 64 h)

/-- `n` steps from T = t on a full block, staying below step 63. -/
theorem runSteps_below {blk : List Byte} (hb : blk.length = 64) (n r : Nat) :
    ∀ (s : State) (i : Nat), s.buf = cellsFrom 0 blk → s.t = BitVec.ofNat 6 i → i + n = 63 →
      ∀ h, s.work = stepsFrom (blockWord blk) h i →
        runSteps (n + r) s =
          runSteps r { s with work := stepsFrom (blockWord blk) h 63, t := 63 } := by
  induction n with
  | zero =>
    intro s i _ ht hi h hw
    obtain rfl : i = 63 := by omega
    simp only [Nat.zero_add]
    congr 1
    cases s
    simp_all
  | succ n ih =>
    intro s i hbuf ht hi h hw
    have h63 : s.t ≠ 63 := by
      intro e
      have := congrArg BitVec.toNat (ht.symm.trans e)
      simp at this
      omega
    rw [Nat.succ_add, runSteps, stepAt_of_word h63 (hbuf ▸ readWord_cellsFrom hb _), andThen_next]
    have := ih { s with work := stepsFrom (blockWord blk) h (i + 1), t := s.t + 1 } (i + 1) hbuf
      (by simp [ht, BitVec.ofNat_add]) (by omega) h rfl
    rw [← this]
    simp [stepsFrom, stepWords, ht, hw]

/-- Compress on a full block: H becomes the pure function of H and the block, the working registers
are those of step 63, and the compression has ended (R100, R107, R108). -/
theorem compress_block {blk : List Byte} (hb : blk.length = 64) {s : State}
    (hbuf : s.buf = cellsFrom 0 blk) :
    compress s = .next { s with
      h := compressBlock s.h blk
      work := stepsFrom (blockWord blk) s.h 64
      t := 63
      running := false } := by
  rw [compress, runSteps_below hb 63 1 (loadWork s) 0 hbuf rfl rfl s.h rfl, runSteps]
  show andThen (stepAt 63 { loadWork s with work := stepsFrom (blockWord blk) s.h 63, t := 63 }) _ = _
  rw [stepAt_last_of_word (m := blockWord blk (widx 63)) (hbuf ▸ readWord_cellsFrom hb _)]
  rfl

/-- The same, with the state after it as a variable: cite this one where the fields of that state are
compared, so that nothing has to look into `compressBlock`. -/
theorem compress_full {blk : List Byte} (hb : blk.length = 64) {s : State}
    (hbuf : s.buf = cellsFrom 0 blk) :
    ∃ u, compress s = .next u ∧ u.h = compressBlock s.h blk ∧ u.running = false ∧ SameOutside s u :=
  ⟨_, compress_block hb hbuf, rfl, rfl, ⟨rfl, rfl, rfl, rfl, rfl, rfl, rfl, rfl, rfl, rfl⟩⟩

/-! ### What the compressor does not read -/

/-- A step neither reads nor writes UERR. -/
theorem stepAt_uerr {t : BitVec 6} {s u : State} (b : Bool) (h : stepAt t s = .next u) :
    stepAt t { s with uerr := b } = .next { u with uerr := b } := by
  unfold stepAt at h ⊢
  split at h
  · rename_i ht
    obtain ⟨v, hv, h⟩ := andThen_eq_next h
    obtain ⟨m, hm, rfl⟩ := runStep_eq_next hv
    cases h
    rw [if_pos ht, runStep_of_word (s := { s with uerr := b }) hm]
    rfl
  · rename_i ht
    obtain ⟨m, hm, rfl⟩ := runStep_eq_next h
    rw [if_neg ht, runStep_of_word (s := { s with uerr := b }) hm]

theorem runSteps_uerr {n : Nat} {s u : State} (b : Bool) (h : runSteps n s = .next u) :
    runSteps n { s with uerr := b } = .next { u with uerr := b } := by
  induction n generalizing s with
  | zero => cases h; rfl
  | succ n ih =>
    obtain ⟨v, hv, h⟩ := andThen_eq_next h
    show andThen (stepAt s.t { s with uerr := b }) _ = _
    rw [stepAt_uerr b hv]
    exact ih h

/-- Compress neither reads nor writes UERR (R100). -/
theorem compress_uerr {s u : State} (b : Bool) (h : compress s = .next u) :
    compress { s with uerr := b } = .next { u with uerr := b } := by
  unfold compress at h ⊢
  rw [show loadWork { s with uerr := b } = { loadWork s with uerr := b } from rfl]
  exact runSteps_uerr b h

/-- Compress loads a, b, c, d and T before it reads them (R101). -/
theorem compress_transient (s : State) (w : Quad) (t0 : BitVec 6) :
    compress { s with work := w, t := t0 } = compress s := by
  unfold compress
  rw [show loadWork { s with work := w, t := t0 } = loadWork s from rfl]

/-! ### How the compressor can stop -/

/-- The one way a step stops: a dead cell in a message word (92 D12). -/
theorem stepAt_stops {t : BitVec 6} {s : State} :
    (∃ u, stepAt t s = .next u) ∨ ∃ j : BitVec 4, stepAt t s = .fault (.deadCell (4 * j.toNat)) := by
  rcases hm : readWord s.buf (widx t) with _ | m
  · exact .inr ⟨_, stepAt_of_dead hm⟩
  · by_cases ht : t = 63
    · subst ht
      exact .inl ⟨_, stepAt_last_of_word hm⟩
    · exact .inl ⟨_, stepAt_of_word ht hm⟩

theorem runSteps_stops (n : Nat) (s : State) :
    (∃ u, runSteps n s = .next u) ∨
      ∃ j : BitVec 4, runSteps n s = .fault (.deadCell (4 * j.toNat)) := by
  induction n generalizing s with
  | zero => exact .inl ⟨s, rfl⟩
  | succ n ih =>
    rw [runSteps]
    rcases stepAt_stops (t := s.t) (s := s) with ⟨u, hu⟩ | ⟨j, hj⟩
    · rw [hu]
      exact ih u
    · rw [hj]
      exact .inr ⟨j, rfl⟩

/-- The one way Compress stops (92 D12). -/
theorem compress_stops (s : State) :
    (∃ u, compress s = .next u) ∨ ∃ j : BitVec 4, compress s = .fault (.deadCell (4 * j.toNat)) :=
  runSteps_stops 64 (loadWork s)

end Sys2Proof.Machine
end

