-- ==== Sys2Proof/Laws/Commands.lean ====
section
/-! SUPPORT. What the padder and the fetch can do, said once (42_padder.md R181, R182, R184;
30_encoding.md R76). -/

namespace Sys2Proof.Machine

@[simp] theorem bytesLE64_length (n : BitVec 64) : (bytesLE64 n).length = 8 := rfl

theorem padBytes_length (len : BitVec 6) (n : BitVec 64) :
    (padBytes len n).length = padZeros len + 9 := by
  simp [padBytes]

/-- The pad octets fill one block when LEN <= 55 (R182). -/
theorem padBytes_length_one {len : BitVec 6} (h : len.toNat ≤ 55) (n : BitVec 64) :
    len.toNat + (padBytes len n).length = 64 := by
  rw [padBytes_length, padZeros]
  omega

/-- The pad octets fill two blocks when LEN >= 56 (R182). -/
theorem padBytes_length_two {len : BitVec 6} (h : 55 < len.toNat) (n : BitVec 64) :
    len.toNat + (padBytes len n).length = 128 := by
  have := len.isLt
  rw [padBytes_length, padZeros]
  omega

/-- One block of padding: H takes one Compress of the pending octets and PAD (R184, case LEN <= 55). -/
theorem padOneBlock_eq {s : State} {p : List Byte} (hbuf : s.buf = cellsFrom 0 p)
    (hp : p.length = s.len.toNat) (h55 : s.len.toNat ≤ 55) :
    padOneBlock s = .next { s with
      h := compressBlock s.h (p ++ padBytes s.len s.bitcnt)
      buf := cellsFrom 0 (p ++ padBytes s.len s.bitcnt)
      work := stepsFrom (blockWord (p ++ padBytes s.len s.bitcnt)) s.h 64
      t := 63
      running := false } := by
  have hw : writeBytes s.buf s.len.toNat (padBytes s.len s.bitcnt)
      = cellsFrom 0 (p ++ padBytes s.len s.bitcnt) := by
    rw [hbuf, ← hp]
    simpa using writeBytes_cellsFrom_end 0 p (padBytes s.len s.bitcnt)
  have hl : (p ++ padBytes s.len s.bitcnt).length = 64 := by
    rw [List.length_append, hp, padBytes_length_one h55]
  rw [padOneBlock, hw, compress_block hl rfl]

/-- Two blocks of padding: H takes Compress of the first 64 octets of the pending octets and PAD, then
of the last 64 (R184, case LEN >= 56). -/
theorem padTwoBlocks_eq {s : State} {p : List Byte} (hbuf : s.buf = cellsFrom 0 p)
    (hp : p.length = s.len.toNat) (h55 : 55 < s.len.toNat) :
    ∃ t, padTwoBlocks s = .next t ∧
      t.h = compressBlock
        (compressBlock s.h ((p ++ padBytes s.len s.bitcnt).take 64))
        ((p ++ padBytes s.len s.bitcnt).drop 64) ∧
      t.running = false ∧ SameOutside { s with buf := t.buf } t := by
  have hlen := s.len.isLt
  have hpad := padBytes_length_two h55 s.bitcnt
  have htake : (p ++ padBytes s.len s.bitcnt).take 64
      = p ++ (padBytes s.len s.bitcnt).take (64 - s.len.toNat) := by
    rw [List.take_append, hp, List.take_of_length_le (by omega)]
  have hdrop : (p ++ padBytes s.len s.bitcnt).drop 64
      = (padBytes s.len s.bitcnt).drop (64 - s.len.toNat) := by
    rw [List.drop_append, hp, List.drop_of_length_le (by omega), List.nil_append]
  have hw : writeBytes s.buf s.len.toNat ((padBytes s.len s.bitcnt).take (64 - s.len.toNat))
      = cellsFrom 0 ((p ++ padBytes s.len s.bitcnt).take 64) := by
    rw [htake, hbuf, ← hp]
    simpa using writeBytes_cellsFrom_end 0 p _
  have h1 : ((p ++ padBytes s.len s.bitcnt).take 64).length = 64 := by
    rw [List.length_take, List.length_append]; omega
  have h2 : ((p ++ padBytes s.len s.bitcnt).drop 64).length = 64 := by
    rw [List.length_drop, List.length_append]; omega
  rw [padTwoBlocks, compress_block h1 (s := { s with buf := _ }) hw, andThen_next]
  have hw2 : writeBytes (cellsFrom 0 ((p ++ padBytes s.len s.bitcnt).take 64)) 0
      ((padBytes s.len s.bitcnt).drop (64 - s.len.toNat))
      = cellsFrom 0 ((p ++ padBytes s.len s.bitcnt).drop 64) := by
    rw [hdrop]
    exact writeBytes_cellsFrom_over _ _ (by rw [h1, ← hdrop, h2])
  rw [hw, compress_block h2 (s := { s with buf := _, h := _, work := _, t := _, running := _ }) hw2]
  exact ⟨_, rfl, rfl, rfl, ⟨rfl, rfl, rfl, rfl, rfl, rfl, rfl, rfl, rfl, rfl⟩⟩

/-- The padder's contract on pending octets: it answers a next state, H takes one Compress or two, the
compression has ended, and only BUF is written besides (R182, R184). -/
theorem padAndCompress_eq {s : State} {p : List Byte} (hbuf : s.buf = cellsFrom 0 p)
    (hp : p.length = s.len.toNat) :
    ∃ t, padAndCompress s = .next t ∧
      t.h = (if s.len.toNat ≤ 55 then compressBlock s.h (p ++ padBytes s.len s.bitcnt)
        else compressBlock
          (compressBlock s.h ((p ++ padBytes s.len s.bitcnt).take 64))
          ((p ++ padBytes s.len s.bitcnt).drop 64)) ∧
      t.running = false ∧ SameOutside { s with buf := t.buf } t := by
  unfold padAndCompress
  split
  · rename_i h55
    rw [padOneBlock_eq hbuf hp h55]
    exact ⟨_, rfl, rfl, rfl, ⟨rfl, rfl, rfl, rfl, rfl, rfl, rfl, rfl, rfl, rfl⟩⟩
  · rename_i h55
    exact padTwoBlocks_eq hbuf hp (by omega)

/-- Whatever the padder does, it writes only BUF and what Compress writes (R180, R100). -/
theorem padAndCompress_frame {s t : State} (h : padAndCompress s = .next t) :
    SameOutside { s with buf := t.buf } t := by
  unfold padAndCompress padOneBlock padTwoBlocks at h
  split at h
  · have f := compress_frame h
    exact ⟨rfl, f.len, f.bitcnt, f.fin, f.uerr, f.rsp, f.port, f.sent, f.seen, f.draws⟩
  · obtain ⟨u, hu, h⟩ := andThen_eq_next h
    have f := compress_frame hu
    have g := compress_frame h
    exact ⟨rfl, g.len.trans f.len, g.bitcnt.trans f.bitcnt, g.fin.trans f.fin, g.uerr.trans f.uerr,
      g.rsp.trans f.rsp, g.port.trans f.port, g.sent.trans f.sent, g.seen.trans f.seen,
      g.draws.trans f.draws⟩

/-- The padder neither reads nor writes UERR. -/
theorem padAndCompress_uerr {s u : State} (b : Bool) (h : padAndCompress s = .next u) :
    padAndCompress { s with uerr := b } = .next { u with uerr := b } := by
  unfold padAndCompress padOneBlock padTwoBlocks at h ⊢
  dsimp only at h ⊢
  split at h
  · rename_i ht
    rw [if_pos ht]
    exact compress_uerr b h
  · rename_i ht
    obtain ⟨v, hv, h⟩ := andThen_eq_next h
    have hb := compress_uerr b hv
    have hc := compress_uerr b h
    dsimp only at hb hc ⊢
    rw [if_neg ht, hb, andThen_next]
    exact hc

/-- The padder does not read a, b, c, d and T before its first load. -/
theorem padAndCompress_transient (s : State) (w : Quad) (t0 : BitVec 6) :
    padAndCompress { s with work := w, t := t0 } = padAndCompress s := by
  have h := compress_transient
    { s with buf := writeBytes s.buf s.len.toNat (padBytes s.len s.bitcnt) } w t0
  have h' := compress_transient
    { s with buf :=
      writeBytes s.buf s.len.toNat ((padBytes s.len s.bitcnt).take (64 - s.len.toNat)) } w t0
  unfold padAndCompress padOneBlock padTwoBlocks
  dsimp only at h h' ⊢
  rw [h, h']

/-! ### What a step of the machine is -/

/-- An engine in a compression with no reset at its ports runs STEP T. -/
theorem step_running {s : State} (hr : s.running = true)
    (hp : ∀ e rest, s.port = e :: rest → e.isReset = false) : step s = exec (decodeSel s.t) s := by
  unfold step fetch nextRunning
  rw [if_pos hr]
  split
  · rename_i c s' h
    split at h
    · rename_i e rest he
      rw [hp e rest he] at h
      simp at h
      rw [← h.1, ← h.2]
      rfl
    · simp at h
      rw [← h.1, ← h.2]
      rfl
  · rename_i s' h
    split at h
    · rename_i e rest he
      rw [hp e rest he] at h
      simp at h
    · simp at h

/-- A ready engine takes the host's next event. -/
theorem fetch_event {s : State} {e : HostEvent} {rest : List HostEvent} (hr : s.running = false)
    (hp : s.port = e :: rest) : fetch s = nextEvent e { s with port := rest } := by
  unfold fetch nextReady
  rw [if_neg (by simp [hr]), hp]

/-- A ready engine whose host offers a command word runs it. -/
theorem step_cmd {s : State} {w : BitVec 10} {rest : List HostEvent} (hr : s.running = false)
    (hp : s.port = .cmd w :: rest) : step s = exec (decodeCmd w) { s with port := rest } := by
  rw [step, fetch_event hr hp]
  rfl

/-- A ready engine that is reset. -/
theorem step_reset {s : State} {e : HostEvent} {rest : List HostEvent} (hr : s.running = false)
    (hp : s.port = e :: rest) (he : e.isReset = true) :
    step s = .next (resetBy { s with port := rest }) := by
  rw [step, fetch_event hr hp]
  cases e with
  | cmd w => exact nomatch he
  | reset => rfl
  | resetDuring w => rfl
  | transfer => exact nomatch he
  | sample => exact nomatch he

/-- A ready engine whose response word is transferred. -/
theorem step_transfer {s : State} {rest : List HostEvent} (hr : s.running = false)
    (hp : s.port = .transfer :: rest) : step s = .next (transferRsp { s with port := rest }) := by
  rw [step, fetch_event hr hp]
  rfl

/-- A ready engine whose status outputs are sampled. -/
theorem step_sample {s : State} {rest : List HostEvent} (hr : s.running = false)
    (hp : s.port = .sample :: rest) : step s = .next (takeSample { s with port := rest }) := by
  rw [step, fetch_event hr hp]
  rfl

/-- A ready engine with nothing at its ports holds its state. -/
theorem step_idle {s : State} (hr : s.running = false) (hp : s.port = []) : step s = .next s := by
  simp [step, fetch, nextReady, hr, hp]

/-- What a step of a ready engine can be. -/
theorem step_ready_cases {s t : State} (hr : s.running = false) (h : step s = .next t) :
    (s.port = [] ∧ t = s) ∨
    (∃ w rest, s.port = .cmd w :: rest ∧ exec (decodeCmd w) { s with port := rest } = .next t) ∨
    (∃ e rest, s.port = e :: rest ∧ e.isReset = true ∧ t = resetBy { s with port := rest }) ∨
    (∃ rest, s.port = .transfer :: rest ∧ t = transferRsp { s with port := rest }) ∨
    (∃ rest, s.port = .sample :: rest ∧ t = takeSample { s with port := rest }) := by
  rcases hp : s.port with _ | ⟨e, rest⟩
  · rw [step_idle hr hp] at h
    cases h
    exact .inl ⟨rfl, rfl⟩
  · cases e with
    | cmd w => exact .inr (.inl ⟨w, rest, rfl, by rw [← h, step_cmd hr hp]⟩)
    | reset =>
      rw [step_reset hr hp rfl] at h
      cases h
      exact .inr (.inr (.inl ⟨_, rest, rfl, rfl, rfl⟩))
    | resetDuring w =>
      rw [step_reset hr hp rfl] at h
      cases h
      exact .inr (.inr (.inl ⟨_, rest, rfl, rfl, rfl⟩))
    | transfer =>
      rw [step_transfer hr hp] at h
      cases h
      exact .inr (.inr (.inr (.inl ⟨rest, rfl, rfl⟩)))
    | sample =>
      rw [step_sample hr hp] at h
      cases h
      exact .inr (.inr (.inr (.inr ⟨rest, rfl, rfl⟩)))

/-- A command word decodes to one of the four commands (30 R72, R78). -/
theorem decodeCmd_cases (w : BitVec 10) :
    (∃ d, decodeCmd w = .init d) ∨ (∃ x, decodeCmd w = .update x) ∨
    (∃ d, decodeCmd w = .final d) ∨ (∃ g k, decodeCmd w = .read g k) := by
  unfold decodeCmd
  split
  · exact .inl ⟨_, rfl⟩
  · split
    · exact .inr (.inl ⟨_, rfl⟩)
    · split
      · exact .inr (.inr (.inl ⟨_, rfl⟩))
      · exact .inr (.inr (.inr ⟨_, _, rfl⟩))

end Sys2Proof.Machine
end

