-- ==== Sys2Proof/Laws/PerInstr.lean ====
section
/-! SUPPORT. Per instruction: its code word fits its row of spec/opcode_table.json, that is, it has the
row's width and agrees with the row's match under the row's mask (30_encoding.md R72, R77). -/

namespace Sys2Proof.Laws

/-- A row of the opcode table: width, mask and match. -/
structure Row where
  width : Nat
  mask : Nat
  matched : Nat
deriving DecidableEq, Repr

/-- The row of each instruction, copied from spec/opcode_table.json. -/
def rowOf : Instr → Row
  | .init _ => ⟨10, 0x300, 0x000⟩
  | .update _ => ⟨10, 0x300, 0x100⟩
  | .final _ => ⟨10, 0x300, 0x200⟩
  | .read _ _ => ⟨10, 0x300, 0x300⟩
  | .step0 => ⟨6, 0x3F, 0x00⟩
  | .step1 => ⟨6, 0x3F, 0x01⟩
  | .step2 => ⟨6, 0x3F, 0x02⟩
  | .step3 => ⟨6, 0x3F, 0x03⟩
  | .step4 => ⟨6, 0x3F, 0x04⟩
  | .step5 => ⟨6, 0x3F, 0x05⟩
  | .step6 => ⟨6, 0x3F, 0x06⟩
  | .step7 => ⟨6, 0x3F, 0x07⟩
  | .step8 => ⟨6, 0x3F, 0x08⟩
  | .step9 => ⟨6, 0x3F, 0x09⟩
  | .step10 => ⟨6, 0x3F, 0x0A⟩
  | .step11 => ⟨6, 0x3F, 0x0B⟩
  | .step12 => ⟨6, 0x3F, 0x0C⟩
  | .step13 => ⟨6, 0x3F, 0x0D⟩
  | .step14 => ⟨6, 0x3F, 0x0E⟩
  | .step15 => ⟨6, 0x3F, 0x0F⟩
  | .step16 => ⟨6, 0x3F, 0x10⟩
  | .step17 => ⟨6, 0x3F, 0x11⟩
  | .step18 => ⟨6, 0x3F, 0x12⟩
  | .step19 => ⟨6, 0x3F, 0x13⟩
  | .step20 => ⟨6, 0x3F, 0x14⟩
  | .step21 => ⟨6, 0x3F, 0x15⟩
  | .step22 => ⟨6, 0x3F, 0x16⟩
  | .step23 => ⟨6, 0x3F, 0x17⟩
  | .step24 => ⟨6, 0x3F, 0x18⟩
  | .step25 => ⟨6, 0x3F, 0x19⟩
  | .step26 => ⟨6, 0x3F, 0x1A⟩
  | .step27 => ⟨6, 0x3F, 0x1B⟩
  | .step28 => ⟨6, 0x3F, 0x1C⟩
  | .step29 => ⟨6, 0x3F, 0x1D⟩
  | .step30 => ⟨6, 0x3F, 0x1E⟩
  | .step31 => ⟨6, 0x3F, 0x1F⟩
  | .step32 => ⟨6, 0x3F, 0x20⟩
  | .step33 => ⟨6, 0x3F, 0x21⟩
  | .step34 => ⟨6, 0x3F, 0x22⟩
  | .step35 => ⟨6, 0x3F, 0x23⟩
  | .step36 => ⟨6, 0x3F, 0x24⟩
  | .step37 => ⟨6, 0x3F, 0x25⟩
  | .step38 => ⟨6, 0x3F, 0x26⟩
  | .step39 => ⟨6, 0x3F, 0x27⟩
  | .step40 => ⟨6, 0x3F, 0x28⟩
  | .step41 => ⟨6, 0x3F, 0x29⟩
  | .step42 => ⟨6, 0x3F, 0x2A⟩
  | .step43 => ⟨6, 0x3F, 0x2B⟩
  | .step44 => ⟨6, 0x3F, 0x2C⟩
  | .step45 => ⟨6, 0x3F, 0x2D⟩
  | .step46 => ⟨6, 0x3F, 0x2E⟩
  | .step47 => ⟨6, 0x3F, 0x2F⟩
  | .step48 => ⟨6, 0x3F, 0x30⟩
  | .step49 => ⟨6, 0x3F, 0x31⟩
  | .step50 => ⟨6, 0x3F, 0x32⟩
  | .step51 => ⟨6, 0x3F, 0x33⟩
  | .step52 => ⟨6, 0x3F, 0x34⟩
  | .step53 => ⟨6, 0x3F, 0x35⟩
  | .step54 => ⟨6, 0x3F, 0x36⟩
  | .step55 => ⟨6, 0x3F, 0x37⟩
  | .step56 => ⟨6, 0x3F, 0x38⟩
  | .step57 => ⟨6, 0x3F, 0x39⟩
  | .step58 => ⟨6, 0x3F, 0x3A⟩
  | .step59 => ⟨6, 0x3F, 0x3B⟩
  | .step60 => ⟨6, 0x3F, 0x3C⟩
  | .step61 => ⟨6, 0x3F, 0x3D⟩
  | .step62 => ⟨6, 0x3F, 0x3E⟩
  | .step63 => ⟨6, 0x3F, 0x3F⟩

/-- The width of a code word. -/
def codeWidth : CodeWord → Nat
  | .cmd _ => 10
  | .sel _ => 6

/-- The value of a code word. -/
def codeValue : CodeWord → Nat
  | .cmd w => w.toNat
  | .sel t => t.toNat

/-- The code word of the instruction fits its row. -/
def RowMatch.Statement (i : Instr) : Prop :=
  codeWidth (encode i) = (rowOf i).width ∧
    codeValue (encode i) &&& (rowOf i).mask = (rowOf i).matched

/-- A command word's bits 9..8 are its `op`. -/
theorem cmdWord_masked (op : BitVec 2) (data : BitVec 8) :
    (cmdWord op data).toNat &&& 0x300 = 256 * op.toNat := by
  revert op data
  decide +kernel

theorem RowMatch.init (data : BitVec 8) : RowMatch.Statement (.init data) :=
  ⟨rfl, cmdWord_masked 0 data⟩
theorem RowMatch.update (x : BitVec 8) : RowMatch.Statement (.update x) :=
  ⟨rfl, cmdWord_masked 1 x⟩
theorem RowMatch.final (data : BitVec 8) : RowMatch.Statement (.final data) :=
  ⟨rfl, cmdWord_masked 2 data⟩
theorem RowMatch.read (ign k : BitVec 4) : RowMatch.Statement (.read ign k) :=
  ⟨rfl, cmdWord_masked 3 (ign ++ k)⟩
theorem RowMatch.step0 : RowMatch.Statement .step0 := ⟨rfl, rfl⟩
theorem RowMatch.step1 : RowMatch.Statement .step1 := ⟨rfl, rfl⟩
theorem RowMatch.step2 : RowMatch.Statement .step2 := ⟨rfl, rfl⟩
theorem RowMatch.step3 : RowMatch.Statement .step3 := ⟨rfl, rfl⟩
theorem RowMatch.step4 : RowMatch.Statement .step4 := ⟨rfl, rfl⟩
theorem RowMatch.step5 : RowMatch.Statement .step5 := ⟨rfl, rfl⟩
theorem RowMatch.step6 : RowMatch.Statement .step6 := ⟨rfl, rfl⟩
theorem RowMatch.step7 : RowMatch.Statement .step7 := ⟨rfl, rfl⟩
theorem RowMatch.step8 : RowMatch.Statement .step8 := ⟨rfl, rfl⟩
theorem RowMatch.step9 : RowMatch.Statement .step9 := ⟨rfl, rfl⟩
theorem RowMatch.step10 : RowMatch.Statement .step10 := ⟨rfl, rfl⟩
theorem RowMatch.step11 : RowMatch.Statement .step11 := ⟨rfl, rfl⟩
theorem RowMatch.step12 : RowMatch.Statement .step12 := ⟨rfl, rfl⟩
theorem RowMatch.step13 : RowMatch.Statement .step13 := ⟨rfl, rfl⟩
theorem RowMatch.step14 : RowMatch.Statement .step14 := ⟨rfl, rfl⟩
theorem RowMatch.step15 : RowMatch.Statement .step15 := ⟨rfl, rfl⟩
theorem RowMatch.step16 : RowMatch.Statement .step16 := ⟨rfl, rfl⟩
theorem RowMatch.step17 : RowMatch.Statement .step17 := ⟨rfl, rfl⟩
theorem RowMatch.step18 : RowMatch.Statement .step18 := ⟨rfl, rfl⟩
theorem RowMatch.step19 : RowMatch.Statement .step19 := ⟨rfl, rfl⟩
theorem RowMatch.step20 : RowMatch.Statement .step20 := ⟨rfl, rfl⟩
theorem RowMatch.step21 : RowMatch.Statement .step21 := ⟨rfl, rfl⟩
theorem RowMatch.step22 : RowMatch.Statement .step22 := ⟨rfl, rfl⟩
theorem RowMatch.step23 : RowMatch.Statement .step23 := ⟨rfl, rfl⟩
theorem RowMatch.step24 : RowMatch.Statement .step24 := ⟨rfl, rfl⟩
theorem RowMatch.step25 : RowMatch.Statement .step25 := ⟨rfl, rfl⟩
theorem RowMatch.step26 : RowMatch.Statement .step26 := ⟨rfl, rfl⟩
theorem RowMatch.step27 : RowMatch.Statement .step27 := ⟨rfl, rfl⟩
theorem RowMatch.step28 : RowMatch.Statement .step28 := ⟨rfl, rfl⟩
theorem RowMatch.step29 : RowMatch.Statement .step29 := ⟨rfl, rfl⟩
theorem RowMatch.step30 : RowMatch.Statement .step30 := ⟨rfl, rfl⟩
theorem RowMatch.step31 : RowMatch.Statement .step31 := ⟨rfl, rfl⟩
theorem RowMatch.step32 : RowMatch.Statement .step32 := ⟨rfl, rfl⟩
theorem RowMatch.step33 : RowMatch.Statement .step33 := ⟨rfl, rfl⟩
theorem RowMatch.step34 : RowMatch.Statement .step34 := ⟨rfl, rfl⟩
theorem RowMatch.step35 : RowMatch.Statement .step35 := ⟨rfl, rfl⟩
theorem RowMatch.step36 : RowMatch.Statement .step36 := ⟨rfl, rfl⟩
theorem RowMatch.step37 : RowMatch.Statement .step37 := ⟨rfl, rfl⟩
theorem RowMatch.step38 : RowMatch.Statement .step38 := ⟨rfl, rfl⟩
theorem RowMatch.step39 : RowMatch.Statement .step39 := ⟨rfl, rfl⟩
theorem RowMatch.step40 : RowMatch.Statement .step40 := ⟨rfl, rfl⟩
theorem RowMatch.step41 : RowMatch.Statement .step41 := ⟨rfl, rfl⟩
theorem RowMatch.step42 : RowMatch.Statement .step42 := ⟨rfl, rfl⟩
theorem RowMatch.step43 : RowMatch.Statement .step43 := ⟨rfl, rfl⟩
theorem RowMatch.step44 : RowMatch.Statement .step44 := ⟨rfl, rfl⟩
theorem RowMatch.step45 : RowMatch.Statement .step45 := ⟨rfl, rfl⟩
theorem RowMatch.step46 : RowMatch.Statement .step46 := ⟨rfl, rfl⟩
theorem RowMatch.step47 : RowMatch.Statement .step47 := ⟨rfl, rfl⟩
theorem RowMatch.step48 : RowMatch.Statement .step48 := ⟨rfl, rfl⟩
theorem RowMatch.step49 : RowMatch.Statement .step49 := ⟨rfl, rfl⟩
theorem RowMatch.step50 : RowMatch.Statement .step50 := ⟨rfl, rfl⟩
theorem RowMatch.step51 : RowMatch.Statement .step51 := ⟨rfl, rfl⟩
theorem RowMatch.step52 : RowMatch.Statement .step52 := ⟨rfl, rfl⟩
theorem RowMatch.step53 : RowMatch.Statement .step53 := ⟨rfl, rfl⟩
theorem RowMatch.step54 : RowMatch.Statement .step54 := ⟨rfl, rfl⟩
theorem RowMatch.step55 : RowMatch.Statement .step55 := ⟨rfl, rfl⟩
theorem RowMatch.step56 : RowMatch.Statement .step56 := ⟨rfl, rfl⟩
theorem RowMatch.step57 : RowMatch.Statement .step57 := ⟨rfl, rfl⟩
theorem RowMatch.step58 : RowMatch.Statement .step58 := ⟨rfl, rfl⟩
theorem RowMatch.step59 : RowMatch.Statement .step59 := ⟨rfl, rfl⟩
theorem RowMatch.step60 : RowMatch.Statement .step60 := ⟨rfl, rfl⟩
theorem RowMatch.step61 : RowMatch.Statement .step61 := ⟨rfl, rfl⟩
theorem RowMatch.step62 : RowMatch.Statement .step62 := ⟨rfl, rfl⟩
theorem RowMatch.step63 : RowMatch.Statement .step63 := ⟨rfl, rfl⟩

end Sys2Proof.Laws
end

