-- ==== Sys2Proof/Safety.lean ====
section
/-! DEFINITION. The terms claims are stated in: the invariant of the engine between commands, the
message an Open engine holds, the hash of a message as a function (44_digest_engine.md R207), and
sequences of commands (30_encoding.md R82). -/

namespace Sys2Proof.Machine

/-- What holds between two commands in every state that the ports can bring about (10 R25, R31 items 1,
2 and 4): no compression is in progress, the cells that hold a value are exactly 0 .. LEN - 1, BITCNT is
a multiple of 8 whose bits 8..3 are LEN while Open, and LEN is 0 while Finalized. -/
abbrev Inv (s : State) : Prop :=
  s.running = false ∧
  s.buf.map Prod.fst = List.range s.len.toNat ∧
  (s.fin = false → s.bitcnt.extractLsb' 0 3 = 0 ∧ s.len = s.bitcnt.extractLsb' 3 6) ∧
  (s.fin = true → s.len = 0)

/-- The chaining value after the first `n` blocks of 64 octets: H_{j+1} = Compress applied to H_j and
B_j (44 R207). -/
def chain (h : Quad) : Nat → List Byte → Quad
  | 0, _ => h
  | n + 1, bs => chain (compressBlock h (bs.take 64)) n (bs.drop 64)

/-- The number of octets of `m` in complete blocks. -/
def wholeOctets (m : List Byte) : Nat := 64 * (m.length / 64)

/-- A message with its padding: `m ++ PAD` (44 R207, 42 R181, R183). -/
def padded (m : List Byte) : List Byte :=
  m ++ padBytes (BitVec.ofNat 6 m.length) (BitVec.ofNat 64 (8 * m.length))

/-- H_q, the last chaining value of a message (44 R207). -/
def messageState (m : List Byte) : Quad := chain iv ((padded m).length / 64) (padded m)

/-- `hash(m)`: the sixteen octets of the last chaining value (44 R207). -/
def messageDigest (m : List Byte) : List Byte := digestBytes (messageState m)

/-- The Open engine has accepted exactly the octets `m` since INIT or reset (10 R31 items 2 and 3): H is
the chaining value of the complete blocks, BUF holds the octets after the last complete block, BITCNT
and LEN count them. -/
abbrev Holds (m : List Byte) (s : State) : Prop :=
  s.running = false ∧ s.fin = false ∧
  s.h = chain iv (m.length / 64) m ∧
  s.buf = cellsFrom 0 (m.drop (wholeOctets m)) ∧
  s.len = BitVec.ofNat 6 m.length ∧
  s.bitcnt = BitVec.ofNat 64 (8 * m.length)

/-- Commands one after the other, each complete before the next (20 R58, 30 R76). -/
def execAll : List Instr → State → Answer
  | [], s => .next s
  | i :: is, s => andThen (exec i s) (execAll is)

/-- `n` steps of the machine, stopping at a fault or a refusal. -/
def stepTimes : Nat → State → Answer
  | 0, s => .next s
  | n + 1, s => andThen (step s) (stepTimes n)

/-- `UPDATEB x0 x1 ...` (30 R82). -/
def updateCommands (m : List Byte) : List Instr := m.map Instr.update

/-- `DIGEST`: READ 0, READ 1, ..., READ 15 (30 R82). -/
def digestCommands : List Instr := (List.range 16).map fun k => .read 0 (BitVec.ofNat 4 k)

/-- `HASH bytes`: INIT, UPDATEB bytes, FINAL, DIGEST (30 R82). -/
def hashCommands (m : List Byte) : List Instr :=
  .init 0 :: (updateCommands m ++ .final 0 :: digestCommands)

/-! ### Templates of the step rules (41_block_compressor.md section 4) -/

/-- The pseudocode of R110 to R173 on the working registers:
`(d, add32(b, rotl32(add32(a, f(b, c, d), m, k), n)), b, c)`. -/
def stepResult (f : Word → Word → Word → Word) (m k : Word) (n : Nat) (w : Quad) : Quad :=
  ⟨w.d, w.b + rotl32 (w.a + f w.b w.c w.d + m + k) n, w.b, w.c⟩

/-- The rule of STEP t, t in 0..62: the value of T selects instruction `i`; with message word M[j] in
BUF, `i` takes the working registers to the result of the pseudocode, T to t + 1, and writes nothing
else. -/
def StepTakes (i : Instr) (t : BitVec 6) (f : Word → Word → Word → Word) (j : BitVec 4) (k : Word)
    (n : Nat) : Prop :=
  decode (.sel t) = i ∧
  ∀ (s : State) (m : Word), readWord s.buf j = some m →
    exec i s = .next { s with work := stepResult f m k n s.work, t := t + 1 }

/-- The worked example of a step rule: registers `x` before, f, temp and r as the rule lists them,
registers `y` after. -/
def StepExample (f : Word → Word → Word → Word) (m k : Word) (n : Nat) (x : Quad) (fv temp r : Word)
    (y : Quad) : Prop :=
  f x.b x.c x.d = fv ∧ x.a + fv + m + k = temp ∧ rotl32 temp n = r ∧ y = ⟨x.d, x.b + r, x.b, x.c⟩

/-! ### What stands first at the ports -/

/-- The host's next event is a command word with this `op` (30 R71, R72). -/
def OffersOp (s : State) (op : BitVec 2) : Prop :=
  ∃ w rest, s.port = .cmd w :: rest ∧ opField w = op

/-- The host's next event is a reset (70 R240, R241). -/
def OffersReset (s : State) : Prop := ∃ e rest, s.port = e :: rest ∧ e.isReset = true

end Sys2Proof.Machine
end

