-- ==== Sys2Proof/Certificates/Slice0/Obligations.lean ====
section
/-! DEFINITION. The statements for the provers. -/

open Sys2Proof Sys2Proof.Machine

/-- What one step is, in every case (30 R70, R76, R77; 60 R231; 70 R240, R241, R243). The port as a list of host events,
the transfer of a response among them, is the model's own form (logs 2, 7). -/
def Obligations.StepRunsWhatComesNext : Prop :=
  ∀ s : State,
    (∀ w rest, s.running = false → s.port = .cmd w :: rest →
      step s = exec (decode (.cmd w)) { s with port := rest }) ∧
    (s.running = true → ¬ OffersReset s → step s = exec (decode (.sel s.t)) s) ∧
    (∀ e rest, s.port = e :: rest → e.isReset = true →
      step s = .next (resetBy { s with port := rest })) ∧
    (∀ rest, s.running = false → s.port = .transfer :: rest →
      step s = .next { s with port := rest, rsp := none }) ∧
    (∀ rest, s.running = false → s.port = .sample :: rest →
      step s = .next (takeSample { s with port := rest })) ∧
    (s.running = false → s.port = [] → step s = .next s)

/-- Round trip both ways: no bit of a command word or of T is dropped (30 R71, R72, R77, R78). -/
def Obligations.DecodeAndEncodeAgree : Prop :=
  (∀ i : Instr, decode (encode i) = i) ∧ (∀ c : CodeWord, encode (decode c) = c)

/-- A sanity statement on single words (30 R71, R72, R73, R77); the 8- and 16-bit forms, and
that they refuse a value wider than a command word or than T, are the model's (log 3). -/
def Obligations.WrittenOutWordsDecode : Prop :=
  decode (.cmd 0b0010101010) = .init 0b10101010 ∧
  decode (.cmd 0b0101001000) = .update 0x48 ∧
  decode (.cmd 0b0111111111) = .update 0xFF ∧
  decode (.cmd 0b1000000000) = .final 0 ∧
  decode (.cmd 0b1011111111) = .final 0xFF ∧
  decode (.cmd 0b1100001111) = .read 0 15 ∧
  decode (.cmd 0b1111110011) = .read 0b1111 3 ∧
  decode (.sel 0b010000) = .step16 ∧
  decode (.sel 0b111111) = .step63 ∧
  decodeTableWord 16 0x0AA = some (.init 0xAA) ∧
  decodeTableWord 16 0x148 = some (.update 0x48) ∧
  decodeTableWord 16 0x1FF = some (.update 0xFF) ∧
  decodeTableWord 16 0x200 = some (.final 0) ∧
  decodeTableWord 16 0x2FF = some (.final 0xFF) ∧
  decodeTableWord 16 0x30F = some (.read 0 15) ∧
  decodeTableWord 16 0x3F3 = some (.read 15 3) ∧
  decodeTableWord 16 0x400 = none ∧
  decodeTableWord 8 0x10 = some .step16 ∧
  decodeTableWord 8 0x3F = some .step63 ∧
  decodeTableWord 8 0x40 = none

/-- The octet form of code words is the model's own (log 3): one octet for a selector, two for a command word. -/
def Obligations.OctetsDecodeExactlyWhenTheyAreACodeWord : Prop :=
  ∀ (bs : List Byte) (i : Instr), decodeBytes bs = .ok i ↔ bs = bytesOfCodeWord (encode i)

/-- Operand assembly and ignored bits (30 R72, R73, R78), for every word, canonical or not. -/
def Obligations.CommandWordsRunByTheirFields : Prop :=
  ∀ (w : BitVec 10) (s : State),
    (w.toNat / 256 = 0 → ∀ d, exec (decode (.cmd w)) s = exec (.init d) s) ∧
    (w.toNat / 256 = 1 → exec (decode (.cmd w)) s = exec (.update (BitVec.ofNat 8 (w.toNat % 256))) s) ∧
    (w.toNat / 256 = 2 → ∀ d, exec (decode (.cmd w)) s = exec (.final d) s) ∧
    (w.toNat / 256 = 3 → ∀ g, exec (decode (.cmd w)) s = exec (.read g (BitVec.ofNat 4 (w.toNat % 16))) s) ∧
    encode (.init 0) = .cmd 0x000 ∧ encode (.final 0) = .cmd 0x200 ∧
    (∀ x, encode (.update x) = .cmd (BitVec.ofNat 10 (0x100 + x.toNat))) ∧
    (∀ k, encode (.read 0 k) = .cmd (BitVec.ofNat 10 (0x300 + k.toNat)))

/-- INIT (44 R201). That no cell holds a value with LEN = 0 is 10 R25. -/
def Obligations.InitReinitialises : Prop :=
  ∀ (d : BitVec 8) (s : State),
    exec (.init d) s = .next { s with
      h := ⟨0x67452301, 0xEFCDAB89, 0x98BADCFE, 0x10325476⟩
      len := 0
      buf := []
      bitcnt := 0
      fin := false
      uerr := false
      rsp := some 0x000
      sent := s.sent ++ [0x000] }

/-- Reset values, and the same values after INIT (10 R33). That `rsp_valid` is 0 after INIT once the response of INIT has
had its one transfer is the model's reading (log 7). The values the model chose for a, b, c, d and T (log 5) and for its own
fields are not claimed. -/
def Obligations.ResetLeavesTheStatedValues : Prop :=
  State.reset.h = ⟨0x67452301, 0xEFCDAB89, 0x98BADCFE, 0x10325476⟩ ∧
  State.reset.len = 0 ∧ State.reset.bitcnt = 0 ∧ State.reset.fin = false ∧ State.reset.uerr = false ∧
  (outputs State.reset).fin = false ∧ (outputs State.reset).uerr = false ∧
  rspValid State.reset = false ∧ (∀ a, readByte State.reset.buf a = none) ∧
  (∀ (d : BitVec 8) (s : State), ∃ t, exec (.init d) s = .next t ∧
    t.h = State.reset.h ∧ t.len = State.reset.len ∧ t.bitcnt = State.reset.bitcnt ∧
    t.fin = State.reset.fin ∧ t.uerr = State.reset.uerr ∧ t.buf = State.reset.buf ∧
    (outputs t).fin = false ∧ (outputs t).uerr = false) ∧
  ∀ (s : State) (w : BitVec 10) (rest : List HostEvent), s.running = false →
    s.port = .cmd w :: .transfer :: rest → opField w = 0 → ∃ t, stepTimes 2 s = .next t ∧
      t.h = State.reset.h ∧ t.len = State.reset.len ∧ t.bitcnt = State.reset.bitcnt ∧
      t.fin = State.reset.fin ∧ t.uerr = State.reset.uerr ∧ t.buf = State.reset.buf ∧
      (outputs t).fin = false ∧ (outputs t).uerr = false ∧ rspValid t = false ∧
      t.sent = s.sent ++ [0x000] ∧ t.port = rest

/-- Reset at any time (70 R240, R241). That the responses already given stay recorded is the model's record (log 7). -/
def Obligations.ResetReplacesTheState : Prop :=
  ∀ (s : State) (e : HostEvent) (rest : List HostEvent), s.port = e :: rest → e.isReset = true →
    ∃ t, step s = .next t ∧
      t.h = ⟨0x67452301, 0xEFCDAB89, 0x98BADCFE, 0x10325476⟩ ∧ t.len = 0 ∧ t.buf = [] ∧
      t.bitcnt = 0 ∧ t.fin = false ∧ t.uerr = false ∧ t.running = false ∧ t.rsp = none ∧
      t.sent = s.sent ∧ t.port = rest

/-- UPDATE (43 R190, R191, R192, R194), with its frame. What a, b, c, d and T hold after a compression is not claimed (log 5). -/
def Obligations.UpdateFollowsItsRule : Prop :=
  ∀ (x : BitVec 8) (s : State),
    (s.fin = true → exec (.update x) s = .next { s with
      uerr := true, rsp := some 0x100, sent := s.sent ++ [0x100] }) ∧
    (s.fin = false → s.len.toNat < 63 → exec (.update x) s = .next { s with
      buf := writeByte s.buf s.len.toNat x
      bitcnt := s.bitcnt + 8
      len := s.len + 1
      rsp := some 0x000
      sent := s.sent ++ [0x000] }) ∧
    (∀ p : List Byte, s.fin = false → s.len.toNat = 63 → p.length = 63 → s.buf = cellsFrom 0 p →
      ∃ w t, exec (.update x) s = .next { s with
        h := compressBlock s.h (p ++ [x])
        buf := []
        bitcnt := s.bitcnt + 8
        len := 0
        work := w
        t := t
        running := false
        rsp := some 0x000
        sent := s.sent ++ [0x000] }) ∧
    (∃ t, exec (.update 0x48) State.reset = .next t ∧ readByte t.buf 0 = some 0x48 ∧ t.len = 1 ∧
      t.bitcnt = 8 ∧ t.h = State.reset.h ∧ t.rsp = some 0x000)

/-- The frame of UPDATE over BUF (20 R54, 43 R190): the address stored to is LEN. -/
def Obligations.UpdateStoresOneOctet : Prop :=
  ∀ (x : BitVec 8) (s t : State), s.fin = false → s.len.toNat < 63 → exec (.update x) s = .next t →
    readByte t.buf s.len.toNat = some x ∧
    ∀ a, a ≠ s.len.toNat → readByte t.buf a = readByte s.buf a

/-- PAD (42 R181). -/
def Obligations.PadSequence : Prop :=
  ∀ (len : BitVec 6) (n : BitVec 64), ∃ z : Nat,
    padBytes len n = 0x80 :: List.replicate z 0 ++
      ((List.range 8).map fun i => BitVec.ofNat 8 (n.toNat / 256 ^ i)) ∧
    (len.toNat ≤ 55 → z + len.toNat = 55 ∧ len.toNat + (padBytes len n).length = 64) ∧
    (56 ≤ len.toNat → z + len.toNat = 119 ∧ len.toNat + (padBytes len n).length = 128) ∧
    (len.toNat + 1 + z) % 64 = 56 ∧
    9 ≤ (padBytes len n).length ∧ (padBytes len n).length ≤ 72 ∧
    (len.toNat = 55 → (padBytes len n).length = 9) ∧
    (len.toNat = 56 → (padBytes len n).length = 72)

/-- FINAL (44 R202, R203; 42 R182), with its frame. What a, b, c, d and T hold afterwards is not claimed (log 5). -/
def Obligations.FinalFollowsItsRule : Prop :=
  ∀ (d : BitVec 8) (s : State),
    (s.fin = true → exec (.final d) s = .next { s with
      uerr := true, rsp := some 0x100, sent := s.sent ++ [0x100] }) ∧
    (∀ p : List Byte, s.fin = false → p.length = s.len.toNat → s.buf = cellsFrom 0 p →
      ∃ w t, exec (.final d) s = .next { s with
        h := if s.len.toNat ≤ 55 then compressBlock s.h (p ++ padBytes s.len s.bitcnt)
          else compressBlock (compressBlock s.h ((p ++ padBytes s.len s.bitcnt).take 64))
            ((p ++ padBytes s.len s.bitcnt).drop 64)
        buf := []
        len := 0
        fin := true
        work := w
        t := t
        running := false
        rsp := some 0x000
        sent := s.sent ++ [0x000] }) ∧
    (∃ t, exec (.final d) State.reset = .next t ∧ t.fin = true ∧
      t.h = ⟨0xD98C1DD4, 0x04B2008F, 0x980980E9, 0x7E42F8EC⟩ ∧
      digestBytes t.h = [0xD4, 0x1D, 0x8C, 0xD9, 0x8F, 0x00, 0xB2, 0x04,
        0xE9, 0x80, 0x09, 0x98, 0xEC, 0xF8, 0x42, 0x7E])

/-- READ (44 R204, 20 R53), with its frame. -/
def Obligations.ReadFollowsItsRule : Prop :=
  ∀ (g k : BitVec 4) (s : State),
    (s.fin = false → exec (.read g k) s = .next { s with
      uerr := true, rsp := some 0x100, sent := s.sent ++ [0x100] }) ∧
    (s.fin = true →
      let word := [s.h.a, s.h.b, s.h.c, s.h.d].getD (k.toNat / 4) 0
      let rdata : Byte := BitVec.ofNat 8 (word.toNat / 2 ^ (8 * (k.toNat % 4)))
      exec (.read g k) s = .next { s with
        rsp := some (rdata.setWidth 9), sent := s.sent ++ [rdata.setWidth 9] }) ∧
    (s.fin = true → ∃ t, exec (.read g 0) s = .next t ∧
      t.rsp = some ((s.h.a.extractLsb' 0 8).setWidth 9)) ∧
    (s.fin = true → ∃ t, exec (.read g 15) s = .next t ∧
      t.rsp = some ((s.h.d.extractLsb' 24 8).setWidth 9)) ∧
    (s.fin = true → s.h = ⟨0xD98C1DD4, 0x04B2008F, 0x980980E9, 0x7E42F8EC⟩ →
      (∃ t, exec (.read g 0) s = .next t ∧ t.rsp = some 0x0D4) ∧
      (∃ t, exec (.read g 1) s = .next t ∧ t.rsp = some 0x01D) ∧
      (∃ t, exec (.read g 4) s = .next t ∧ t.rsp = some 0x08F) ∧
      (∃ t, exec (.read g 15) s = .next t ∧ t.rsp = some 0x07E))

/-- The Digest (20 R53; 30 R83; 10 R30; 44 R205). -/
def Obligations.DigestOctetsAreLittleEndian : Prop :=
  ∀ (h : Quad) (k : BitVec 4),
    (digestBytes h)[k.toNat]? = some (digestOctet h k) ∧
    (digestOctet h k).toNat =
      ([h.a, h.b, h.c, h.d].getD (k.toNat / 4) 0).toNat / 2 ^ (8 * (k.toNat % 4)) % 256 ∧
    digestOctet h 0 = h.a.extractLsb' 0 8 ∧ digestOctet h 3 = h.a.extractLsb' 24 8 ∧
    digestOctet h 4 = h.b.extractLsb' 0 8 ∧ digestOctet h 15 = h.d.extractLsb' 24 8 ∧
    ∀ s : State, s.fin = true → s.h = h →
      (digestO s).extractLsb' (8 * k.toNat) 8 = digestOctet h k ∧
      (digestO s).extractLsb' 0 32 = h.a ∧ (digestO s).extractLsb' 32 32 = h.b ∧
      (digestO s).extractLsb' 64 32 = h.c ∧ (digestO s).extractLsb' 96 32 = h.d

/-- Causes of UsageError (60 R221) and the cause code, the err bit of the response (30 R74, R75). -/
def Obligations.UsageErrorExactlyByPhase : Prop :=
  ∀ (i : Instr) (s t : State), i.isCommand = true → exec i s = .next t →
    ((∃ r, t.rsp = some r ∧ r.getLsbD 8 = true) ↔
      ((∃ x, i = .update x) ∧ s.fin = true) ∨ ((∃ d, i = .final d) ∧ s.fin = true) ∨
      ((∃ g k, i = .read g k) ∧ s.fin = false))

/-- The effect of a rejected command (60 R222). -/
def Obligations.RejectedCommandChangesOnlyUerr : Prop :=
  ∀ (s : State) (i : Instr),
    ((∃ x, i = .update x) ∧ s.fin = true) ∨ ((∃ d, i = .final d) ∧ s.fin = true) ∨
      ((∃ g k, i = .read g k) ∧ s.fin = false) →
    exec i s = .next { s with uerr := true, rsp := some 0x100, sent := s.sent ++ [0x100] }

/-- One response per command, in order (30 R75, R76). The record of responses is the model's (log 7). -/
def Obligations.EveryCommandAnswersOnce : Prop :=
  ∀ (i : Instr) (s t : State), exec i s = .next t →
    (i.isCommand = true → ∃ r, t.rsp = some r ∧ t.sent = s.sent ++ [r] ∧
      (r.extractLsb' 0 8 ≠ 0 → (∃ g k, i = .read g k) ∧ s.fin = true)) ∧
    (i.isCommand = false → t.rsp = s.rsp ∧ t.sent = s.sent)

/-- The rules of STEP0 to STEP7 (41 R110 to R117), with their frames and their worked examples. -/
def Obligations.Steps0To7FollowTheirRules : Prop :=
  StepTakes .step0 0 roundF 0 0xD76AA478 7 ∧
  StepExample roundF 0x00000080 0xD76AA478 7
    ⟨0x67452301, 0xEFCDAB89, 0x98BADCFE, 0x10325476⟩
    0x98BADCFE 0xD76AA4F7 0xB5527BEB
    ⟨0x10325476, 0xA5202774, 0xEFCDAB89, 0x98BADCFE⟩ ∧
  StepTakes .step1 1 roundF 1 0xE8C7B756 12 ∧
  StepExample roundF 0x00000000 0xE8C7B756 12
    ⟨0x10325476, 0xA5202774, 0xEFCDAB89, 0x98BADCFE⟩
    0xBD9AFB8A 0xB6950756 0x50756B69
    ⟨0x98BADCFE, 0xF59592DD, 0xA5202774, 0xEFCDAB89⟩ ∧
  StepTakes .step2 2 roundF 2 0x242070DB 17 ∧
  StepExample roundF 0x00000000 0x242070DB 17
    ⟨0x98BADCFE, 0xF59592DD, 0xA5202774, 0xEFCDAB89⟩
    0xAF482B54 0x6C23792D 0xF25AD846
    ⟨0xEFCDAB89, 0xE7F06B23, 0xF59592DD, 0xA5202774⟩ ∧
  StepTakes .step3 3 roundF 3 0xC1BDCEEE 22 ∧
  StepExample roundF 0x00000000 0xC1BDCEEE 22
    ⟨0xEFCDAB89, 0xE7F06B23, 0xF59592DD, 0xA5202774⟩
    0xE5900655 0x971B80CC 0x3325C6E0
    ⟨0xA5202774, 0x1B163203, 0xE7F06B23, 0xF59592DD⟩ ∧
  StepTakes .step4 4 roundF 4 0xF57C0FAF 7 ∧
  StepExample roundF 0x00000000 0xF57C0FAF 7
    ⟨0xA5202774, 0x1B163203, 0xE7F06B23, 0xF59592DD⟩
    0xE791A2DF 0x822DDA02 0x16ED0141
    ⟨0xF59592DD, 0x32033344, 0x1B163203, 0xE7F06B23⟩ ∧
  StepTakes .step5 5 roundF 5 0x4787C62A 12 ∧
  StepExample roundF 0x00000000 0x4787C62A 12
    ⟨0xF59592DD, 0x32033344, 0x1B163203, 0xE7F06B23⟩
    0xD7F27A23 0x150FD32A 0xFD32A150
    ⟨0xE7F06B23, 0x2F35D494, 0x32033344, 0x1B163203⟩ ∧
  StepTakes .step6 6 roundF 6 0xA8304613 17 ∧
  StepExample roundF 0x00000000 0xA8304613 17
    ⟨0xE7F06B23, 0x2F35D494, 0x32033344, 0x1B163203⟩
    0x32033207 0xC223E33D 0xC67B8447
    ⟨0x1B163203, 0xF5B158DB, 0x2F35D494, 0x32033344⟩ ∧
  StepTakes .step7 7 roundF 7 0xFD469501 22 ∧
  StepExample roundF 0x00000000 0xFD469501 22
    ⟨0x1B163203, 0xF5B158DB, 0x2F35D494, 0x32033344⟩
    0x27337394 0x3F903A98 0xA60FE40E
    ⟨0x32033344, 0x9BC13CE9, 0xF5B158DB, 0x2F35D494⟩

/-- The rules of STEP8 to STEP15 (41 R118 to R125), with their frames and their worked examples. -/
def Obligations.Steps8To15FollowTheirRules : Prop :=
  StepTakes .step8 8 roundF 8 0x698098D8 7 ∧
  StepExample roundF 0x00000000 0x698098D8 7
    ⟨0x32033344, 0x9BC13CE9, 0xF5B158DB, 0x2F35D494⟩
    0xB5B5D8DD 0x5139A4F9 0x9CD27CA8
    ⟨0x2F35D494, 0x3893B991, 0x9BC13CE9, 0xF5B158DB⟩ ∧
  StepTakes .step9 9 roundF 9 0x8B44F7AF 12 ∧
  StepExample roundF 0x00000000 0x8B44F7AF 12
    ⟨0x2F35D494, 0x3893B991, 0x9BC13CE9, 0xF5B158DB⟩
    0xDDA178CB 0x981C450E 0xC450E981
    ⟨0xF5B158DB, 0xFCE4A312, 0x3893B991, 0x9BC13CE9⟩ ∧
  StepTakes .step10 10 roundF 10 0xFFFF5BB1 17 ∧
  StepExample roundF 0x00000000 0xFFFF5BB1 17
    ⟨0xF5B158DB, 0xFCE4A312, 0x3893B991, 0x9BC13CE9⟩
    0x3B81BDF9 0x31327285 0xE50A6264
    ⟨0x9BC13CE9, 0xE1EF0576, 0xFCE4A312, 0x3893B991⟩ ∧
  StepTakes .step11 11 roundF 11 0x895CD7BE 22 ∧
  StepExample roundF 0x00000000 0x895CD7BE 22
    ⟨0x9BC13CE9, 0xE1EF0576, 0xFCE4A312, 0x3893B991⟩
    0xF8F4B993 0x1E12CE3A 0x8E8784B3
    ⟨0x3893B991, 0x70768A29, 0xE1EF0576, 0xFCE4A312⟩ ∧
  StepTakes .step12 12 roundF 12 0x6B901122 7 ∧
  StepExample roundF 0x00000000 0x6B901122 7
    ⟨0x3893B991, 0x70768A29, 0xE1EF0576, 0xFCE4A312⟩
    0xECE62132 0x9109EBE5 0x84F5F2C8
    ⟨0xFCE4A312, 0xF56C7CF1, 0x70768A29, 0xE1EF0576⟩ ∧
  StepTakes .step13 13 roundF 13 0xFD987193 12 ∧
  StepExample roundF 0x00000000 0xFD987193 12
    ⟨0xFCE4A312, 0xF56C7CF1, 0x70768A29, 0xE1EF0576⟩
    0x70E70927 0x6B641DCC 0x41DCC6B6
    ⟨0xE1EF0576, 0x374943A7, 0xF56C7CF1, 0x70768A29⟩ ∧
  StepTakes .step14 14 roundF 14 0xA679438E 17 ∧
  StepExample roundF 0x00000000 0xA679438E 17
    ⟨0xE1EF0576, 0x374943A7, 0xF56C7CF1, 0x70768A29⟩
    0x757EC8A9 0xFDE711AD 0x235BFBCE
    ⟨0x70768A29, 0x5AA53F75, 0x374943A7, 0xF56C7CF1⟩ ∧
  StepTakes .step15 15 roundF 15 0x49B40821 22 ∧
  StepExample roundF 0x00000000 0x49B40821 22
    ⟨0x70768A29, 0x5AA53F75, 0x374943A7, 0xF56C7CF1⟩
    0xB74943A5 0x7173D5EF 0x7BDC5CF5
    ⟨0xF56C7CF1, 0xD6819C6A, 0x5AA53F75, 0x374943A7⟩

/-- The rules of STEP16 to STEP23 (41 R126 to R133), with their frames and their worked examples. -/
def Obligations.Steps16To23FollowTheirRules : Prop :=
  StepTakes .step16 16 roundG 1 0xF61E2562 5 ∧
  StepExample roundG 0x00000000 0xF61E2562 5
    ⟨0xF56C7CF1, 0xD6819C6A, 0x5AA53F75, 0x374943A7⟩
    0x5EA53C72 0x4A2FDEC5 0x45FBD8A9
    ⟨0x374943A7, 0x1C7D7513, 0xD6819C6A, 0x5AA53F75⟩ ∧
  StepTakes .step17 17 roundG 6 0xC040B340 9 ∧
  StepExample roundG 0x00000000 0xC040B340 9
    ⟨0x374943A7, 0x1C7D7513, 0xD6819C6A, 0x5AA53F75⟩
    0x9C25B51B 0x93AFAC02 0x5F580527
    ⟨0x5AA53F75, 0x7BD57A3A, 0x1C7D7513, 0xD6819C6A⟩ ∧
  StepTakes .step18 18 roundG 11 0x265E5A51 14 ∧
  StepExample roundG 0x00000000 0x265E5A51 14
    ⟨0x5AA53F75, 0x7BD57A3A, 0x1C7D7513, 0xD6819C6A⟩
    0x5AFD793B 0xDC011301 0x44C07700
    ⟨0xD6819C6A, 0xC095F13A, 0x7BD57A3A, 0x1C7D7513⟩ ∧
  StepTakes .step19 19 roundG 0 0xE9B6C7AA 20 ∧
  StepExample roundG 0x00000080 0xE9B6C7AA 20
    ⟨0xD6819C6A, 0xC095F13A, 0x7BD57A3A, 0x1C7D7513⟩
    0x63957B3A 0x23CDDFCE 0xFCE23CDD
    ⟨0x1C7D7513, 0xBD782E17, 0xC095F13A, 0x7BD57A3A⟩ ∧
  StepTakes .step20 20 roundG 5 0xD62F105D 5 ∧
  StepExample roundG 0x00000000 0xD62F105D 5
    ⟨0x1C7D7513, 0xBD782E17, 0xC095F13A, 0x7BD57A3A⟩
    0xB950AB12 0xABFD3082 0x7FA61055
    ⟨0x7BD57A3A, 0x3D1E3E6C, 0xBD782E17, 0xC095F13A⟩ ∧
  StepTakes .step21 21 roundG 10 0x02441453 9 ∧
  StepExample roundG 0x00000000 0x02441453 9
    ⟨0x7BD57A3A, 0x3D1E3E6C, 0xBD782E17, 0xC095F13A⟩
    0x3D7C3E2D 0xBB95CCBA 0x2B997577
    ⟨0xC095F13A, 0x68B7B3E3, 0x3D1E3E6C, 0xBD782E17⟩ ∧
  StepTakes .step22 22 roundG 15 0xD8A1E681 14 ∧
  StepExample roundG 0x00000000 0xD8A1E681 14
    ⟨0xC095F13A, 0x68B7B3E3, 0x3D1E3E6C, 0xBD782E17⟩
    0x2836326B 0xC16E0A26 0x8289B05B
    ⟨0xBD782E17, 0xEB41643E, 0x68B7B3E3, 0x3D1E3E6C⟩ ∧
  StepTakes .step23 23 roundG 4 0xE7D3FBC8 20 ∧
  StepExample roundG 0x00000000 0xE7D3FBC8 20
    ⟨0xBD782E17, 0xEB41643E, 0x68B7B3E3, 0x3D1E3E6C⟩
    0x69A1A5AF 0x0EEDCF8E 0xF8E0EEDC
    ⟨0x3D1E3E6C, 0xE422531A, 0xEB41643E, 0x68B7B3E3⟩

/-- The rules of STEP24 to STEP31 (41 R134 to R141), with their frames and their worked examples. -/
def Obligations.Steps24To31FollowTheirRules : Prop :=
  StepTakes .step24 24 roundG 9 0x21E1CDE6 5 ∧
  StepExample roundG 0x00000000 0x21E1CDE6 5
    ⟨0x3D1E3E6C, 0xE422531A, 0xEB41643E, 0x68B7B3E3⟩
    0xE362571E 0x42626370 0x4C4C6E08
    ⟨0x68B7B3E3, 0x306EC122, 0xE422531A, 0xEB41643E⟩ ∧
  StepTakes .step25 25 roundG 14 0xC33707D6 9 ∧
  StepExample roundG 0x00000000 0xC33707D6 9
    ⟨0x68B7B3E3, 0x306EC122, 0xE422531A, 0xEB41643E⟩
    0x24625322 0x50510EDB 0xA21DB6A0
    ⟨0xEB41643E, 0xD28C77C2, 0x306EC122, 0xE422531A⟩ ∧
  StepTakes .step26 26 roundG 3 0xF4D50D87 14 ∧
  StepExample roundG 0x00000000 0xF4D50D87 14
    ⟨0xEB41643E, 0xD28C77C2, 0x306EC122, 0xE422531A⟩
    0xD04CD322 0xB06344E7 0xD139EC18
    ⟨0xE422531A, 0xA3C663DA, 0xD28C77C2, 0x306EC122⟩ ∧
  StepTakes .step27 27 roundG 8 0x455A14ED 20 ∧
  StepExample roundG 0x00000000 0x455A14ED 20
    ⟨0xE422531A, 0xA3C663DA, 0xD28C77C2, 0x306EC122⟩
    0xE2C677C2 0x0C42DFC9 0xFC90C42D
    ⟨0x306EC122, 0xA0572807, 0xA3C663DA, 0xD28C77C2⟩ ∧
  StepTakes .step28 28 roundG 13 0xA9E3E905 5 ∧
  StepExample roundG 0x00000000 0xA9E3E905 5
    ⟨0x306EC122, 0xA0572807, 0xA3C663DA, 0xD28C77C2⟩
    0xA146201A 0x7B98CA41 0x7319482F
    ⟨0xD28C77C2, 0x13707036, 0xA0572807, 0xA3C663DA⟩ ∧
  StepTakes .step29 29 roundG 2 0xFCEFA3F8 9 ∧
  StepExample roundG 0x00000000 0xFCEFA3F8 9
    ⟨0xD28C77C2, 0x13707036, 0xA0572807, 0xA3C663DA⟩
    0x03516817 0xD2CD83D1 0x9B07A3A5
    ⟨0xA3C663DA, 0xAE7813DB, 0x13707036, 0xA0572807⟩ ∧
  StepTakes .step30 30 roundG 7 0x676F02D9 14 ∧
  StepExample roundG 0x00000000 0x676F02D9 14
    ⟨0xA3C663DA, 0xAE7813DB, 0x13707036, 0xA0572807⟩
    0xB3705033 0xBEA5B6E6 0x6DB9AFA9
    ⟨0xA0572807, 0x1C31C384, 0xAE7813DB, 0x13707036⟩ ∧
  StepTakes .step31 31 roundG 12 0x8D2A4C8A 20 ∧
  StepExample roundG 0x00000000 0x8D2A4C8A 20
    ⟨0xA0572807, 0x1C31C384, 0xAE7813DB, 0x13707036⟩
    0xBC3843CD 0xE9B9B85E 0x85EE9B9B
    ⟨0x13707036, 0xA2205F1F, 0x1C31C384, 0xAE7813DB⟩

/-- The rules of STEP32 to STEP39 (41 R142 to R149), with their frames and their worked examples. -/
def Obligations.Steps32To39FollowTheirRules : Prop :=
  StepTakes .step32 32 roundH 5 0xFFFA3942 4 ∧
  StepExample roundH 0x00000000 0xFFFA3942 4
    ⟨0x13707036, 0xA2205F1F, 0x1C31C384, 0xAE7813DB⟩
    0x10698F40 0x23D438B8 0x3D438B82
    ⟨0xAE7813DB, 0xDF63EAA1, 0xA2205F1F, 0x1C31C384⟩ ∧
  StepTakes .step33 33 roundH 8 0x8771F681 11 ∧
  StepExample roundH 0x00000000 0x8771F681 11
    ⟨0xAE7813DB, 0xDF63EAA1, 0xA2205F1F, 0x1C31C384⟩
    0x6172763A 0x975C8096 0xE404B4BA
    ⟨0x1C31C384, 0xC3689F5B, 0xDF63EAA1, 0xA2205F1F⟩ ∧
  StepTakes .step34 34 roundH 11 0x6D9D6122 16 ∧
  StepExample roundH 0x00000000 0x6D9D6122 16
    ⟨0x1C31C384, 0xC3689F5B, 0xDF63EAA1, 0xA2205F1F⟩
    0xBE2B2AE5 0x47FA4F8B 0x4F8B47FA
    ⟨0xA2205F1F, 0x12F3E755, 0xC3689F5B, 0xDF63EAA1⟩ ∧
  StepTakes .step35 35 roundH 14 0xFDE5380C 23 ∧
  StepExample roundH 0x00000000 0xFDE5380C 23
    ⟨0xA2205F1F, 0x12F3E755, 0xC3689F5B, 0xDF63EAA1⟩
    0x0EF892AF 0xAEFE29DA 0xED577F14
    ⟨0xDF63EAA1, 0x004B6669, 0x12F3E755, 0xC3689F5B⟩ ∧
  StepTakes .step36 36 roundH 1 0xA4BEEA44 4 ∧
  StepExample roundH 0x00000000 0xA4BEEA44 4
    ⟨0xDF63EAA1, 0x004B6669, 0x12F3E755, 0xC3689F5B⟩
    0xD1D01E67 0x55F2F34C 0x5F2F34C5
    ⟨0xC3689F5B, 0x5F7A9B2E, 0x004B6669, 0x12F3E755⟩ ∧
  StepTakes .step37 37 roundH 4 0x4BDECFA9 11 ∧
  StepExample roundH 0x00000000 0x4BDECFA9 11
    ⟨0xC3689F5B, 0x5F7A9B2E, 0x004B6669, 0x12F3E755⟩
    0x4DC21A12 0x5D098916 0x4C48B2E8
    ⟨0x12F3E755, 0xABC34E16, 0x5F7A9B2E, 0x004B6669⟩ ∧
  StepTakes .step38 38 roundH 7 0xF6BB4B60 16 ∧
  StepExample roundH 0x00000000 0xF6BB4B60 16
    ⟨0x12F3E755, 0xABC34E16, 0x5F7A9B2E, 0x004B6669⟩
    0xF4F2B351 0xFEA1E606 0xE606FEA1
    ⟨0x004B6669, 0x91CA4CB7, 0xABC34E16, 0x5F7A9B2E⟩ ∧
  StepTakes .step39 39 roundH 10 0xBEBFBC70 23 ∧
  StepExample roundH 0x00000000 0xBEBFBC70 23
    ⟨0x004B6669, 0x91CA4CB7, 0xABC34E16, 0x5F7A9B2E⟩
    0x6573998F 0x247EBC68 0x34123F5E
    ⟨0x5F7A9B2E, 0xC5DC8C15, 0x91CA4CB7, 0xABC34E16⟩

/-- The rules of STEP40 to STEP47 (41 R150 to R157), with their frames and their worked examples. -/
def Obligations.Steps40To47FollowTheirRules : Prop :=
  StepTakes .step40 40 roundH 13 0x289B7EC6 4 ∧
  StepExample roundH 0x00000000 0x289B7EC6 4
    ⟨0x5F7A9B2E, 0xC5DC8C15, 0x91CA4CB7, 0xABC34E16⟩
    0xFFD58EB4 0x87EBA8A8 0x7EBA8A88
    ⟨0xABC34E16, 0x4497169D, 0xC5DC8C15, 0x91CA4CB7⟩ ∧
  StepTakes .step41 41 roundH 0 0xEAA127FA 11 ∧
  StepExample roundH 0x00000080 0xEAA127FA 11
    ⟨0xABC34E16, 0x4497169D, 0xC5DC8C15, 0x91CA4CB7⟩
    0x1081D63F 0xA6E64CCF 0x32667D37
    ⟨0x91CA4CB7, 0x76FD93D4, 0x4497169D, 0xC5DC8C15⟩ ∧
  StepTakes .step42 42 roundH 3 0xD4EF3085 16 ∧
  StepExample roundH 0x00000000 0xD4EF3085 16
    ⟨0x91CA4CB7, 0x76FD93D4, 0x4497169D, 0xC5DC8C15⟩
    0xF7B6095C 0x5E6F8698 0x86985E6F
    ⟨0xC5DC8C15, 0xFD95F243, 0x76FD93D4, 0x4497169D⟩ ∧
  StepTakes .step43 43 roundH 6 0x04881D05 23 ∧
  StepExample roundH 0x00000000 0x04881D05 23
    ⟨0xC5DC8C15, 0xFD95F243, 0x76FD93D4, 0x4497169D⟩
    0xCFFF770A 0x9A642024 0x124D3210
    ⟨0x4497169D, 0x0FE32453, 0xFD95F243, 0x76FD93D4⟩ ∧
  StepTakes .step44 44 roundH 9 0xD9D4D039 4 ∧
  StepExample roundH 0x00000000 0xD9D4D039 4
    ⟨0x4497169D, 0x0FE32453, 0xFD95F243, 0x76FD93D4⟩
    0x848B45C4 0xA2F72C9A 0x2F72C9AA
    ⟨0x76FD93D4, 0x3F55EDFD, 0x0FE32453, 0xFD95F243⟩ ∧
  StepTakes .step45 45 roundH 12 0xE6DB99E5 11 ∧
  StepExample roundH 0x00000000 0xE6DB99E5 11
    ⟨0x76FD93D4, 0x3F55EDFD, 0x0FE32453, 0xFD95F243⟩
    0xCD233BED 0x2AFC69A6 0xE34D3157
    ⟨0xFD95F243, 0x22A31F54, 0x3F55EDFD, 0x0FE32453⟩ ∧
  StepTakes .step46 46 roundH 15 0x1FA27CF8 16 ∧
  StepExample roundH 0x00000000 0x1FA27CF8 16
    ⟨0xFD95F243, 0x22A31F54, 0x3F55EDFD, 0x0FE32453⟩
    0x1215D6FA 0x2F4E4635 0x46352F4E
    ⟨0x0FE32453, 0x68D84EA2, 0x22A31F54, 0x3F55EDFD⟩ ∧
  StepTakes .step47 47 roundH 2 0xC4AC5665 23 ∧
  StepExample roundH 0x00000000 0xC4AC5665 23
    ⟨0x0FE32453, 0x68D84EA2, 0x22A31F54, 0x3F55EDFD⟩
    0x752EBC0B 0x49BE36C3 0x61A4DF1B
    ⟨0x3F55EDFD, 0xCA7D2DBD, 0x68D84EA2, 0x22A31F54⟩

/-- The rules of STEP48 to STEP55 (41 R158 to R165), with their frames and their worked examples. -/
def Obligations.Steps48To55FollowTheirRules : Prop :=
  StepTakes .step48 48 roundI 0 0xF4292244 6 ∧
  StepExample roundI 0x00000080 0xF4292244 6
    ⟨0x3F55EDFD, 0xCA7D2DBD, 0x68D84EA2, 0x22A31F54⟩
    0xB7A5A31D 0xEB24B3DE 0xC92CF7BA
    ⟨0x22A31F54, 0x93AA2577, 0xCA7D2DBD, 0x68D84EA2⟩ ∧
  StepTakes .step49 49 roundI 7 0x432AFF97 10 ∧
  StepExample roundI 0x00000000 0x432AFF97 10
    ⟨0x22A31F54, 0x93AA2577, 0xCA7D2DBD, 0x68D84EA2⟩
    0x5DD298C2 0xC3A0B7AD 0x82DEB70E
    ⟨0x68D84EA2, 0x1688DC85, 0x93AA2577, 0xCA7D2DBD⟩ ∧
  StepTakes .step50 50 roundI 14 0xAB9423A7 15 ∧
  StepExample roundI 0x00000000 0xAB9423A7 15
    ⟨0x68D84EA2, 0x1688DC85, 0x93AA2577, 0xCA7D2DBD⟩
    0xA420FBB0 0xB88D6DF9 0xB6FCDC46
    ⟨0xCA7D2DBD, 0xCD85B8CB, 0x1688DC85, 0x93AA2577⟩ ∧
  StepTakes .step51 51 roundI 5 0xFC93A039 21 ∧
  StepExample roundI 0x00000000 0xFC93A039 21
    ⟨0xCA7D2DBD, 0xCD85B8CB, 0x1688DC85, 0x93AA2577⟩
    0xFB5D264E 0xC26DF444 0x88984DBE
    ⟨0x93AA2577, 0x561E0689, 0xCD85B8CB, 0x1688DC85⟩ ∧
  StepTakes .step52 52 roundI 12 0x655B59C3 6 ∧
  StepExample roundI 0x00000000 0x655B59C3 6
    ⟨0x93AA2577, 0x561E0689, 0xCD85B8CB, 0x1688DC85⟩
    0x32FA9F30 0x2C001E6A 0x00079A8B
    ⟨0x1688DC85, 0x5625A114, 0x561E0689, 0xCD85B8CB⟩ ∧
  StepTakes .step53 53 roundI 3 0x8F0CCC92 10 ∧
  StepExample roundI 0x00000000 0x8F0CCC92 10
    ⟨0x1688DC85, 0x5625A114, 0x561E0689, 0xCD85B8CB⟩
    0x2061E1BD 0xC5F78AD4 0xDE2B5317
    ⟨0xCD85B8CB, 0x3450F42B, 0x5625A114, 0x561E0689⟩ ∧
  StepTakes .step54 54 roundI 10 0xFFEFF47D 15 ∧
  StepExample roundI 0x00000000 0xFFEFF47D 15
    ⟨0xCD85B8CB, 0x3450F42B, 0x5625A114, 0x561E0689⟩
    0xEBD45C6B 0xB94A09B3 0x04D9DCA5
    ⟨0x561E0689, 0x392AD0D0, 0x3450F42B, 0x5625A114⟩ ∧
  StepTakes .step55 55 roundI 1 0x85845DD1 21 ∧
  StepExample roundI 0x00000000 0x85845DD1 21
    ⟨0x561E0689, 0x392AD0D0, 0x3450F42B, 0x5625A114⟩
    0x8DAA2AD0 0x694C8F2A 0xE54D2991
    ⟨0x5625A114, 0x1E77FA61, 0x392AD0D0, 0x3450F42B⟩

/-- The rules of STEP56 to STEP63 (41 R166 to R173), with their frames and their worked examples. That STEP63 includes the add-back of R107, with which the compression ends (R109), is the model's
inference (log 14, DEDUCED): R173 itself writes a, b, c, d. What T holds after it is not claimed (log 5). -/
def Obligations.Steps56To63FollowTheirRules : Prop :=
  StepTakes .step56 56 roundI 8 0x6FA87E4F 6 ∧
  StepExample roundI 0x00000000 0x6FA87E4F 6
    ⟨0x5625A114, 0x1E77FA61, 0x392AD0D0, 0x3450F42B⟩
    0xE6D52B25 0xACA34A88 0x28D2A22B
    ⟨0x3450F42B, 0x474A9C8C, 0x1E77FA61, 0x392AD0D0⟩ ∧
  StepTakes .step57 57 roundI 15 0xFE2CE6E0 10 ∧
  StepExample roundI 0x00000000 0xFE2CE6E0 10
    ⟨0x3450F42B, 0x474A9C8C, 0x1E77FA61, 0x392AD0D0⟩
    0xD9A845CE 0x0C2620D9 0x98836430
    ⟨0x392AD0D0, 0xDFCE00BC, 0x474A9C8C, 0x1E77FA61⟩ ∧
  StepTakes .step58 58 roundI 6 0xA3014314 15 ∧
  StepExample roundI 0x00000000 0xA3014314 15
    ⟨0x392AD0D0, 0xDFCE00BC, 0x474A9C8C, 0x1E77FA61⟩
    0xB8849932 0x94B0AD16 0x568B4A58
    ⟨0x1E77FA61, 0x36594B14, 0xDFCE00BC, 0x474A9C8C⟩ ∧
  StepTakes .step59 59 roundI 13 0x4E0811A1 21 ∧
  StepExample roundI 0x00000000 0x4E0811A1 21
    ⟨0x1E77FA61, 0x36594B14, 0xDFCE00BC, 0x474A9C8C⟩
    0x61336BCB 0xCDB377CD 0xF9B9B66E
    ⟨0x474A9C8C, 0x30130182, 0x36594B14, 0xDFCE00BC⟩ ∧
  StepTakes .step60 60 roundI 4 0xF7537E82 6 ∧
  StepExample roundI 0x00000000 0xF7537E82 6
    ⟨0x474A9C8C, 0x30130182, 0x36594B14, 0xDFCE00BC⟩
    0x066AB4D7 0x4508CFE5 0x4233F951
    ⟨0xDFCE00BC, 0x7246FAD3, 0x30130182, 0x36594B14⟩ ∧
  StepTakes .step61 61 roundI 11 0xBD3AF235 10 ∧
  StepExample roundI 0x00000000 0xBD3AF235 10
    ⟨0xDFCE00BC, 0x7246FAD3, 0x30130182, 0x36594B14⟩
    0xCBF5FF79 0x68FEF26A 0xFBC9A9A3
    ⟨0x36594B14, 0x6E10A476, 0x7246FAD3, 0x30130182⟩ ∧
  StepTakes .step62 62 roundI 2 0x2AD7D2BB 15 ∧
  StepExample roundI 0x00000000 0x2AD7D2BB 15
    ⟨0x36594B14, 0x6E10A476, 0x7246FAD3, 0x30130182⟩
    0x9DBA04AC 0xFEEB227B 0x913DFF75
    ⟨0x30130182, 0xFF4EA3EB, 0x6E10A476, 0x7246FAD3⟩ ∧
  (decode (.sel 63) = .step63 ∧ ∀ (s : State) (m : Word), readWord s.buf 9 = some m →
    ∃ t, exec .step63 s = .next { s with
      work := stepResult roundI m 0xEB86D391 21 s.work
      h := ⟨s.h.a + (stepResult roundI m 0xEB86D391 21 s.work).a,
        s.h.b + (stepResult roundI m 0xEB86D391 21 s.work).b,
        s.h.c + (stepResult roundI m 0xEB86D391 21 s.work).c,
        s.h.d + (stepResult roundI m 0xEB86D391 21 s.work).d⟩
      running := false
      t := t }) ∧
  StepExample roundI 0x00000000 0xEB86D391 21
    ⟨0x30130182, 0xFF4EA3EB, 0x6E10A476, 0x7246FAD3⟩
    0x91EF0399 0xAD88D8AC 0x1595B11B
    ⟨0x7246FAD3, 0x14E45506, 0xFF4EA3EB, 0x6E10A476⟩

/-- The 64 rules written out are one rule over the tables (41 R102; 40 R92 to R95). That the selected instruction for
T = 63 includes the add-back and the end of the compression (41 R107, R109) is the model's inference (log 14, DEDUCED). -/
def Obligations.EveryStepFollowsTheTables : Prop :=
  ∀ (t : BitVec 6) (s : State) (m : Word),
    let j := [t.toNat, 5 * t.toNat + 1, 3 * t.toNat + 5, 7 * t.toNat].getD (t.toNat / 16) 0 % 16
    let f := [roundF, roundG, roundH, roundI].getD (t.toNat / 16) roundF
    let n := ([7, 12, 17, 22, 5, 9, 14, 20, 4, 11, 16, 23, 6, 10, 15, 21] : List Nat).getD
      (4 * (t.toNat / 16) + t.toNat % 4) 0
    readWord s.buf (BitVec.ofNat 4 j) = some m →
    ∃ u, exec (decode (.sel t)) s = .next u ∧
      u.work = stepResult f m (constOf t) n s.work ∧
      (t.toNat < 63 → u = { s with work := u.work, t := t + 1 }) ∧
      (t.toNat = 63 → u = { s with
        work := u.work
        h := ⟨s.h.a + u.work.a, s.h.b + u.work.b, s.h.c + u.work.c, s.h.d + u.work.d⟩
        running := false
        t := u.t })

/-- The model's choice among what 92 D12 allows: "fault on a read of a dead cell" (log 4). -/
def Obligations.DeadCellsStopAStep : Prop :=
  ∀ (t : BitVec 6) (s : State),
    (readWord s.buf (widx t) = none →
      exec (decode (.sel t)) s = .fault (.deadCell (4 * (widx t).toNat))) ∧
    (readWord s.buf (widx t) ≠ none → ∃ u, exec (decode (.sel t)) s = .next u)

/-- Compress as 64 steps and as H' = f(H, blk) (41 R100, R101, R107, R108, R109). R100 lists the add-back as an item of its own
after the 64 steps: that STEP63 includes it, so that 64 steps are all, is the model's inference (log 14, DEDUCED). The steps
are taken one by one from a state placed in a compression, the model's form (log 1): a command runs them in one step. -/
def Obligations.SixtyFourStepsAreCompress : Prop :=
  ∀ (s : State) (blk : List Byte), blk.length = 64 → s.buf = cellsFrom 0 blk → ¬ OffersReset s →
    ∃ w t, stepTimes 64 { s with work := s.h, t := 0, running := true } =
      .next { s with h := compressBlock s.h blk, work := w, t := t, running := false }

/-- The round functions (41 R103 to R106). -/
def Obligations.RoundFunctionsSelectBitByBit : Prop :=
  (∀ (b c d : Word) (i : Nat), i < 32 →
    (roundF b c d).getLsbD i = (if b.getLsbD i then c.getLsbD i else d.getLsbD i) ∧
    (roundG b c d).getLsbD i = (if d.getLsbD i then b.getLsbD i else c.getLsbD i) ∧
    (roundH b c d).getLsbD i = ((b.getLsbD i != c.getLsbD i) != d.getLsbD i) ∧
    (roundI b c d).getLsbD i = (c.getLsbD i != (b.getLsbD i || !d.getLsbD i))) ∧
  (∀ b c d : Word,
    roundG b c d = roundF d b c ∧
    roundF 0 c d = d ∧ roundF 0xFFFFFFFF c d = c ∧ roundF b c c = c ∧
    roundG b c 0 = c ∧ roundG b c 0xFFFFFFFF = b ∧
    roundH b b d = d ∧ roundH 0 0 0 = 0 ∧
    roundI b c 0 = ~~~c ∧ roundI 0xFFFFFFFF c d = ~~~c ∧ roundI 0 c 0xFFFFFFFF = c) ∧
  roundF 0xEFCDAB89 0x98BADCFE 0x10325476 = 0x98BADCFE ∧
  roundG 0xD6819C6A 0x5AA53F75 0x374943A7 = 0x5EA53C72 ∧
  roundH 0xA2205F1F 0x1C31C384 0xAE7813DB = 0x10698F40 ∧
  roundI 0xCA7D2DBD 0x68D84EA2 0x22A31F54 = 0xB7A5A31D

/-- The primitives of 00 R10 that Lean's own operations do not give outright. -/
def Obligations.RotationAndByteViewsAreExact : Prop :=
  (∀ (x : Word) (n i : Nat), 1 ≤ n → n ≤ 31 → i < 32 →
    (rotl32 x n).getLsbD ((i + n) % 32) = x.getLsbD i) ∧
  (∀ b0 b1 b2 b3 : Byte, (le32 b0 b1 b2 b3).toNat =
    b0.toNat + 2 ^ 8 * b1.toNat + 2 ^ 16 * b2.toNat + 2 ^ 24 * b3.toNat) ∧
  (∀ w : Word, bytesLE32 w = (List.range 4).map fun i => BitVec.ofNat 8 (w.toNat / 256 ^ i)) ∧
  (∀ n : BitVec 64, bytesLE64 n = (List.range 8).map fun i => BitVec.ofNat 8 (n.toNat / 256 ^ i))

/-- Byte order of block words and of the length suffix (20 R51, R52). -/
def Obligations.MessageWordsAreLittleEndian : Prop :=
  (∀ (blk : List Byte) (j : BitVec 4), blk.length = 64 →
    ∃ w, readWord (cellsFrom 0 blk) j = some w ∧
      w.toNat = (blk.getD (4 * j.toNat) 0).toNat + 2 ^ 8 * (blk.getD (4 * j.toNat + 1) 0).toNat +
        2 ^ 16 * (blk.getD (4 * j.toNat + 2) 0).toNat + 2 ^ 24 * (blk.getD (4 * j.toNat + 3) 0).toNat) ∧
  (∀ (p : List Byte) (n : BitVec 64), p.length = 56 →
    readWord (cellsFrom 0 (p ++ bytesLE64 n)) 14 = some (n.extractLsb' 0 32) ∧
    readWord (cellsFrom 0 (p ++ bytesLE64 n)) 15 = some (n.extractLsb' 32 32))

/-- The invariant (10 R25, R31 items 1, 2 and 4; commands are atomic, 20 R56) is kept by every step, from every state that
meets it. -/
def Obligations.StepKeepsTheInvariant : Prop :=
  ∀ s t : State, Inv s → step s = .next t → Inv t

/-- Where the invariant and the message begin (10 R31, R33). -/
def Obligations.ResetMeetsTheInvariant : Prop :=
  Inv State.reset ∧ Holds [] State.reset

/-- The engine has no fault of its own: UsageError is the one error and is taken (60 R220); every command is answered (70 R247);
the compressor never observes a dead cell (20 R55). -/
def Obligations.NoStepStopsBetweenCommands : Prop :=
  ∀ s : State, Inv s → ∃ t, step s = .next t

/-- BUF has the cells 0..63 (20 R50); the canonical form is the model's (log 4). -/
def Obligations.BufStaysCanonical : Prop :=
  ∀ s t : State, Memory.wf s.buf = true → step s = .next t → Memory.wf t.buf = true

/-- Every code word has its meaning (30 R78). The one fault is the model's own choice among what 92 D12 allows, "fault on a
read of a dead cell" (log 4, DESIGN CHOICE): the engine itself has no fault (60 R220). -/
def Obligations.NoInstructionIsRefused : Prop :=
  ∀ (i : Instr) (s : State),
    (∀ r, exec i s ≠ .refused r) ∧
    (∀ f, exec i s = .fault f →
      (∃ j : BitVec 4, f = .deadCell (4 * j.toNat)) ∧
      (i.isCommand = false ∨
        ((∃ x, i = .update x) ∧ s.fin = false ∧ s.len.toNat = 63) ∨
        ((∃ d, i = .final d) ∧ s.fin = false)))

/-- FIN (10 R26). -/
def Obligations.FinChangesOnlyAsStated : Prop :=
  ∀ s t : State, s.running = false → step s = .next t →
    (s.fin = false → (t.fin = true ↔ OffersOp s 2)) ∧
    (s.fin = true → (t.fin = false ↔ OffersOp s 0 ∨ OffersReset s)) ∧
    (outputs t).fin = t.fin

/-- UERR (10 R27; 60 R226). -/
def Obligations.UerrChangesOnlyAsStated : Prop :=
  ∀ s t : State, s.running = false → step s = .next t →
    (t.uerr = true ↔
      (OffersOp s 1 ∧ s.fin = true) ∨ (OffersOp s 2 ∧ s.fin = true) ∨ (OffersOp s 3 ∧ s.fin = false) ∨
      (s.uerr = true ∧ ¬ OffersOp s 0 ∧ ¬ OffersReset s)) ∧
    (outputs t).uerr = t.uerr

/-- BITCNT (10 R24; 43 R192). -/
def Obligations.BitcntChangesOnlyAsStated : Prop :=
  ∀ s t : State, s.running = false → step s = .next t →
    (OffersOp s 0 ∨ OffersReset s → t.bitcnt = 0) ∧
    (OffersOp s 1 → s.fin = false → t.bitcnt.toNat = (s.bitcnt.toNat + 8) % 2 ^ 64) ∧
    (¬ OffersOp s 0 → ¬ OffersReset s → ¬ (OffersOp s 1 ∧ s.fin = false) → t.bitcnt = s.bitcnt)

/-- The Digest is "Immutable once produced" (44 R206; 10 R30). -/
def Obligations.DigestIsImmutableOnceProduced : Prop :=
  ∀ s t : State, s.running = false → s.fin = true → step s = .next t →
    ¬ OffersOp s 0 → ¬ OffersReset s → t.h = s.h ∧ t.fin = true ∧ digestO t = digestO s

/-- H (10 R21): "by INIT and reset (to the initial words), and by the add-back that ends each compression". -/
def Obligations.ChainingValueIsWrittenOnlyAsStated : Prop :=
  ∀ s t : State, s.running = false → step s = .next t →
    ¬ OffersOp s 0 → ¬ OffersReset s → ¬ (OffersOp s 1 ∧ s.fin = false ∧ s.len.toNat = 63) →
    ¬ (OffersOp s 2 ∧ s.fin = false) → t.h = s.h

/-- The engine as an accumulator of a message of any length (10 R31 items 2 and 3, R21; 43 R190 to R193). -/
def Obligations.AcceptedOctetsAreHeld : Prop :=
  (∀ (d : BitVec 8) (s : State), s.running = false → ∃ t, exec (.init d) s = .next t ∧ Holds [] t) ∧
  (∀ (m : List Byte) (x : Byte) (s : State), Holds m s →
    ∃ t, exec (.update x) s = .next t ∧ Holds (m ++ [x]) t)

/-- FINAL against the hash as a function (44 R202, R207; 42 R180, R182). -/
def Obligations.FinalHashesTheMessage : Prop :=
  ∀ (m : List Byte) (d : BitVec 8) (s : State), Holds m s →
    ∃ t, exec (.final d) s = .next t ∧ t.fin = true ∧ t.len = 0 ∧ t.h = messageState m ∧
      digestBytes t.h = messageDigest m ∧ t.bitcnt = BitVec.ofNat 64 (8 * m.length) ∧
      t.uerr = s.uerr

/-- HASH is INIT, one UPDATE per octet, FINAL, DIGEST (30 R82), and returns hash(m) (44 R207, R208). -/
def Obligations.HashCommandsReturnTheDigest : Prop :=
  ∀ (m : List Byte) (s : State), s.running = false →
    (messageDigest m).length = 16 ∧
    ∃ t, execAll (hashCommands m) s = .next t ∧ t.fin = true ∧ t.uerr = false ∧
      t.h = messageState m ∧
      t.sent = s.sent ++ List.replicate (m.length + 2) 0x000 ++
        (messageDigest m).map fun b => b.setWidth 9

/-- Block counts (42 R180, R182, R186). -/
def Obligations.PaddedMessageIsWholeBlocks : Prop :=
  ∀ m : List Byte,
    (padded m).length = 64 * (m.length / 64 + if m.length % 64 ≤ 55 then 1 else 2) ∧
    (padded m).take m.length = m

/-- Working registers and T outside a compression (10 R22, R23). -/
def Obligations.WorkingRegistersAreNeverObserved : Prop :=
  ∀ (s u : State) (w : Quad) (t0 : BitVec 6), s.running = false → step s = .next u →
    outputs { s with work := w, t := t0 } = outputs s ∧
    ∃ w' t', step { s with work := w, t := t0 } = .next { u with work := w', t := t' }

/-- UERR is sticky and blocks nothing (60 R226). -/
def Obligations.UerrNeverBlocksACommand : Prop :=
  ∀ (i : Instr) (s t : State) (b : Bool), exec i s = .next t →
    ∃ b', exec i { s with uerr := b } = .next { t with uerr := b' }

/-- Sampling (70 R243; 44 R205; 30 R83). digest_o while FIN = 0 is the free value of log 6; nothing is claimed of it. -/
def Obligations.SamplingShowsTheStatusOutputs : Prop :=
  ∀ (s : State) (rest : List HostEvent), s.running = false → s.port = .sample :: rest →
    ∃ v, step s = .next { s with
        port := rest, seen := s.seen ++ [⟨s.fin, s.uerr, v⟩], draws := s.draws + 1 } ∧
      (s.fin = true → v = s.h.d ++ s.h.c ++ s.h.b ++ s.h.a) ∧
      (s.fin = false → v = Config.freeDigest s.draws)

/-- The response is present "for one transfer" (30 R70, R75, R76; 10 R33). The transfer as an event of the host, and a word that
waits until it, are the model's form (logs 2, 7). -/
def Obligations.ResponseIsPresentForOneTransfer : Prop :=
  ∀ s t : State, s.running = false → step s = .next t →
    (∀ w rest, s.port = .cmd w :: rest → ∃ r, t.rsp = some r ∧ t.sent = s.sent ++ [r]) ∧
    (∀ rest, s.port = .transfer :: rest →
      t = { s with port := rest, rsp := none } ∧ rspValid t = false) ∧
    (OffersReset s → rspValid t = false ∧ t.sent = s.sent) ∧
    ((∀ op, ¬ OffersOp s op) → t.sent = s.sent ∧ (rspValid t = true → t.rsp = s.rsp)) ∧
    ((∀ op, ¬ OffersOp s op) → ¬ OffersReset s → (∀ rest, s.port ≠ .transfer :: rest) → t.rsp = s.rsp)
end

