-- ==== Sys2Proof/Tests/Slice0.lean ====
section
/-! SUPPORT. The model's own tests, each on one instruction or one step. Every expected value is the
spec's: the tables of 30_encoding.md, the worked examples of 41_block_compressor.md, the vectors of
95_test_vectors.md. After them, for every statement with hypotheses, a concrete state and operands that
meet all of them, each clause at the ends of its range. -/

namespace Sys2Proof.Tests

open Sys2Proof.Machine

/-- Did the instruction give a next state with this property? -/
def nextHas (o : Answer) (p : State → Bool) : Bool :=
  match o with
  | .next s => p s
  | .fault _ => false
  | .refused _ => false

/-- A next state at all. -/
def isNext (o : Answer) : Bool := nextHas o fun _ => true

/-- An Open engine with pending octets `p`, after `n` bits, chaining value `h`. -/
def openWith (h : Quad) (p : List Byte) (n : BitVec 64) : State :=
  { State.reset with h := h, buf := cellsFrom 0 p, len := BitVec.ofNat 6 p.length, bitcnt := n }

/-- A Finalized engine with chaining value `h`. -/
def finalWith (h : Quad) (uerr : Bool) : State := { State.reset with h := h, fin := true, uerr := uerr }

/-- The compressor at step `t` on a block, with working registers `w`, from H = IV. -/
def compressing (blk : List Byte) (t : BitVec 6) (w : Quad) : State :=
  { State.reset with buf := cellsFrom 0 blk, t := t, work := w, running := true }

/-- A ready engine whose host does `e` next. -/
def offering (e : HostEvent) (s : State) : State := { s with port := [e] }

/-- H after the empty message (95 section 2.5, E1). -/
def e1 : Quad := ⟨0xD98C1DD4, 0x04B2008F, 0x980980E9, 0x7E42F8EC⟩

/-- Block E: 80, then 63 octets 00 (95 section 2.1). -/
def blockE : List Byte := 0x80 :: List.replicate 63 0

/-- The octets 00, 01, ..., n - 1. -/
def seq (n : Nat) : List Byte := (List.range n).map fun i => BitVec.ofNat 8 i

/-! ### WellFormed refuses what is not canonical (30 R73) -/

theorem test_wf_init_ignored_bits : (Instr.init 0xAA).wellFormed = false := by decide
theorem test_wf_final_ignored_bits : (Instr.final 0xA5).wellFormed = false := by decide
theorem test_wf_read_ignored_bits : (Instr.read 0xF 3).wellFormed = false := by decide
theorem test_wf_canonical :
    (Instr.init 0).wellFormed ∧ (Instr.update 0xFF).wellFormed ∧ (Instr.final 0).wellFormed ∧
      (Instr.read 0 15).wellFormed ∧ Instr.step63.wellFormed := by decide

/-! ### Decoding, words written out from 30 R72, R73, R77 -/

theorem test_decode_init : decode (.cmd 0b0000000000) = .init 0 := by decide
theorem test_decode_init_ignored : decode (.cmd 0b0010101010) = .init 0xAA := by decide
theorem test_decode_update : decode (.cmd 0b0101001000) = .update 0x48 := by decide
theorem test_decode_final : decode (.cmd 0b1010100101) = .final 0xA5 := by decide
theorem test_decode_read : decode (.cmd 0b1100001111) = .read 0 15 := by decide
theorem test_decode_read_ignored : decode (.cmd 0b1111110011) = .read 0xF 3 := by decide

/-- T[5:4] is the round less one (30 R77). -/
theorem test_decode_step_bits : decode (.sel 0b000111) = .step7 ∧ decode (.sel 0b010000) = .step16 ∧
    decode (.sel 0b101010) = .step42 ∧ decode (.sel 0b111111) = .step63 := by decide

/-- Every value of T selects the step of its number, in each round. -/
theorem test_decode_steps_round1 : ((List.range 16).map fun t => decode (.sel (BitVec.ofNat 6 t))) =
    [.step0, .step1, .step2, .step3, .step4, .step5, .step6, .step7, .step8, .step9, .step10,
     .step11, .step12, .step13, .step14, .step15] := by decide
theorem test_decode_steps_round2 :
    ((List.range 16).map fun t => decode (.sel (BitVec.ofNat 6 (16 + t)))) =
    [.step16, .step17, .step18, .step19, .step20, .step21, .step22, .step23, .step24, .step25,
     .step26, .step27, .step28, .step29, .step30, .step31] := by decide
theorem test_decode_steps_round3 :
    ((List.range 16).map fun t => decode (.sel (BitVec.ofNat 6 (32 + t)))) =
    [.step32, .step33, .step34, .step35, .step36, .step37, .step38, .step39, .step40, .step41,
     .step42, .step43, .step44, .step45, .step46, .step47] := by decide
theorem test_decode_steps_round4 :
    ((List.range 16).map fun t => decode (.sel (BitVec.ofNat 6 (48 + t)))) =
    [.step48, .step49, .step50, .step51, .step52, .step53, .step54, .step55, .step56, .step57,
     .step58, .step59, .step60, .step61, .step62, .step63] := by decide

theorem test_table_word_update : decodeTableWord 10 0x148 = some (.update 0x48) := by decide
theorem test_table_word_step : decodeTableWord 6 0x3F = some .step63 := by decide
theorem test_octets_selector_too_wide : decodeBytes [0x40] = .error .selectorTooWide := by
  decide
theorem test_octets_command_too_wide : decodeBytes [0x00, 0x04] = .error .commandTooWide := by
  decide
theorem test_octets_no_such_length : decodeBytes [0x00, 0x01, 0x00] = .error .noSuchLength := by
  decide

/-- The table's own form of a command and of a step is fetched and run as the first instruction after
reset. -/
theorem test_fetch_update :
    nextHas (step (State.reset.withFetchWord 16 0x148)) (fun s => s.len = 1 ∧ s.rsp = some 0x000) := by
  decide
theorem test_fetch_step : isNext (step (State.reset.withFetchWord 8 0x3F)) := by decide

/-! ### Primitives and tables (95 section 2.2, 40 R92 to R94) -/

theorem test_add32 : add32 0xEFCDAB89 0x14E45506 = 0x04B2008F ∧ add32 0xFFFFFFFF 1 = 0 := by decide
theorem test_rotl32 :
    rotl32 0x80000000 1 = 1 ∧ rotl32 1 31 = 0x80000000 ∧ rotl32 0x12345678 4 = 0x23456781 ∧
      rotl32 0xD76AA4F7 7 = 0xB5527BEB := by decide
theorem test_le32 : le32 0x48 0x69 0x80 0x00 = 0x00806948 := by decide
theorem test_bytes_le64 : bytesLE64 448 = [0xC0, 0x01, 0, 0, 0, 0, 0, 0] := by decide
theorem test_digest_vector : digestVector e1 = 0x7E42F8EC980980E904B2008FD98C1DD4 := by decide

/-- The word indices of round 2 and round 4, as the table of R94 lists them. -/
theorem test_widx_round2 : ((List.range 16).map fun t => (widx (BitVec.ofNat 6 (16 + t))).toNat) =
    [1, 6, 11, 0, 5, 10, 15, 4, 9, 14, 3, 8, 13, 2, 7, 12] := by decide
theorem test_widx_round3 : ((List.range 16).map fun t => (widx (BitVec.ofNat 6 (32 + t))).toNat) =
    [5, 8, 11, 14, 1, 4, 7, 10, 13, 0, 3, 6, 9, 12, 15, 2] := by decide
theorem test_widx_round4 : ((List.range 16).map fun t => (widx (BitVec.ofNat 6 (48 + t))).toNat) =
    [0, 7, 14, 5, 12, 3, 10, 1, 8, 15, 6, 13, 4, 11, 2, 9] := by decide
theorem test_shifts_round2 : ((List.range 8).map fun t => shiftOf (BitVec.ofNat 6 (16 + t))) =
    [5, 9, 14, 20, 5, 9, 14, 20] := by decide
theorem test_constants :
    roundConstants.length = 64 ∧ constOf 0 = 0xD76AA478 ∧ constOf 16 = 0xF61E2562 ∧
      constOf 47 = 0xC4AC5665 ∧ constOf 63 = 0xEB86D391 := by decide

/-! ### Steps on block E, the worked examples of 41 R110, R126, R142, R158, R173 -/

theorem test_step0 : nextHas (exec .step0 (compressing blockE 0 iv)) (fun s =>
    s.work = ⟨0x10325476, 0xA5202774, 0xEFCDAB89, 0x98BADCFE⟩ ∧ s.t = 1) := by decide
theorem test_step16 : nextHas
    (exec .step16 (compressing blockE 16 ⟨0xF56C7CF1, 0xD6819C6A, 0x5AA53F75, 0x374943A7⟩)) (fun s =>
      s.work = ⟨0x374943A7, 0x1C7D7513, 0xD6819C6A, 0x5AA53F75⟩ ∧ s.t = 17) := by decide
theorem test_step32 : nextHas
    (exec .step32 (compressing blockE 32 ⟨0x13707036, 0xA2205F1F, 0x1C31C384, 0xAE7813DB⟩)) (fun s =>
      s.work = ⟨0xAE7813DB, 0xDF63EAA1, 0xA2205F1F, 0x1C31C384⟩ ∧ s.t = 33) := by decide
theorem test_step48 : nextHas
    (exec .step48 (compressing blockE 48 ⟨0x3F55EDFD, 0xCA7D2DBD, 0x68D84EA2, 0x22A31F54⟩)) (fun s =>
      s.work = ⟨0x22A31F54, 0x93AA2577, 0xCA7D2DBD, 0x68D84EA2⟩ ∧ s.t = 49) := by decide
/-- The last step adds back: H becomes E1. -/
theorem test_step63 : nextHas
    (exec .step63 (compressing blockE 63 ⟨0x30130182, 0xFF4EA3EB, 0x6E10A476, 0x7246FAD3⟩)) (fun s =>
      s.work = ⟨0x7246FAD3, 0x14E45506, 0xFF4EA3EB, 0x6E10A476⟩ ∧ s.h = e1 ∧ s.running = false) := by
  decide

/-! ### Compress (95 section 2.1) -/

/-- H after the compression of a block from H. -/
def compressFrom (h : Quad) (blk : List Byte) (h' : Quad) : Bool :=
  nextHas (compress { State.reset with h := h, buf := cellsFrom 0 blk }) (fun s => s.h = h')

theorem test_compress_blockE : compressFrom iv blockE e1 := by decide +kernel
theorem test_compress_ones : compressFrom iv (List.replicate 64 0xFF)
    ⟨0x561987B4, 0x493E9151, 0xBDC6554B, 0x015C40DF⟩ := by decide +kernel
theorem test_compress_from_zero : compressFrom ⟨0, 0, 0, 0⟩ (List.replicate 64 0)
    ⟨0xF7CD1C97, 0xA5483681, 0x2B68D832, 0xF90CA639⟩ := by decide +kernel
theorem test_compress_block_function :
    compressBlock iv (seq 64) = ⟨0x9144D9CA, 0xD901E4C9, 0x72FC5B38, 0x625FF51E⟩ := by decide +kernel

/-! ### Pad sequences (95 section 2.3) -/

theorem test_pad_55 : padBytes 55 440 = [0x80, 0xB8, 0x01, 0, 0, 0, 0, 0, 0] := by decide
theorem test_pad_56 : padBytes 56 448 =
    0x80 :: List.replicate 63 0 ++ [0xC0, 0x01, 0, 0, 0, 0, 0, 0] := by decide
theorem test_pad_63 : padBytes 63 504 =
    0x80 :: List.replicate 56 0 ++ [0xF8, 0x01, 0, 0, 0, 0, 0, 0] := by decide

/-! ### Commands, one transition each (95 sections 2.3 and 2.5) -/

theorem test_init_in_use : nextHas (exec (decode (.cmd 0x0FF)) (openWith iv (seq 5) 40)) (fun s =>
    s.h = iv ∧ s.len = 0 ∧ s.bitcnt = 0 ∧ s.rsp = some 0x000 ∧ s.buf = []) := by decide
theorem test_init_finalized : nextHas (exec (decode (.cmd 0x000)) (finalWith e1 true)) (fun s =>
    s.h = iv ∧ s.fin = false ∧ s.uerr = false ∧ s.rsp = some 0x000) := by decide
theorem test_update_block_end : nextHas (exec (decode (.cmd 0x13F)) (openWith iv (seq 63) 504)) (fun s =>
    s.h = ⟨0x9144D9CA, 0xD901E4C9, 0x72FC5B38, 0x625FF51E⟩ ∧ s.len = 0 ∧ s.bitcnt = 512 ∧
      s.uerr = false ∧ s.rsp = some 0x000) := by decide +kernel
/-- The bit counter wraps silently. -/
theorem test_update_counter_wrap :
    nextHas (exec (.update 0) (openWith iv (List.replicate 63 0) 0xFFFFFFFFFFFFFFF8)) (fun s =>
      s.h = ⟨0x031F1DAC, 0x6EA58ED0, 0x1FAB67B7, 0x74317791⟩ ∧ s.len = 0 ∧ s.bitcnt = 0 ∧
        s.uerr = false) := by decide +kernel
theorem test_final_hi : nextHas (exec (decode (.cmd 0x200)) (openWith iv [0x48, 0x69] 16)) (fun s =>
    s.h = ⟨0x8F29A5C1, 0xE8879E93, 0xEDA562F9, 0x186920FC⟩ ∧ s.fin = true ∧ s.len = 0 ∧
      s.bitcnt = 16 ∧ s.rsp = some 0x000) := by decide +kernel
/-- Two blocks: 56 octets 'a'. -/
theorem test_final_two_blocks :
    nextHas (exec (.final 0) (openWith iv (List.replicate 56 0x61) 448)) (fun s =>
      s.h = ⟨0xC78A0C3B, 0xB028F803, 0x70196C4C, 0x1872D106⟩ ∧ s.len = 0 ∧ s.bitcnt = 448) := by
  decide +kernel
theorem test_read_octet : nextHas (exec (decode (.cmd 0x3F3)) (finalWith e1 true)) (fun s =>
    s.rsp = some 0x0D9 ∧ s.uerr = true ∧ s.h = e1) := by decide
theorem test_read_open_is_usage_error : nextHas (exec (decode (.cmd 0x300)) State.reset) (fun s =>
    s.rsp = some 0x100 ∧ s.uerr = true ∧ s.h = iv ∧ s.fin = false) := by decide

/-- The response word is there for one transfer (30 R70): after it `rsp_valid` is 0. -/
theorem test_response_transferred : nextHas
    (step (offering .transfer { finalWith e1 false with rsp := some 0x0D4, sent := [0x0D4] })) (fun s =>
      rspValid s = false ∧ s.sent = [0x0D4] ∧ s.h = e1 ∧ s.fin = true) := by decide

/-! ### Witnesses: states and operands that meet the hypotheses of the statements -/

theorem witness_StepRuns_command : ∃ (s : State) (w : BitVec 10) (rest : List HostEvent),
    s.running = false ∧ s.port = .cmd w :: rest :=
  ⟨offering (.cmd 0x148) State.reset, 0x148, [], rfl, rfl⟩
theorem witness_StepRuns_running : ∃ s : State, s.running = true ∧ ¬ OffersReset s :=
  ⟨compressing blockE 63 iv, rfl, by rintro ⟨e, rest, h, -⟩; cases h⟩
/-- A command that waits is no reset either. -/
theorem witness_StepRuns_running_waiting : ∃ s : State, s.running = true ∧ s.port ≠ [] ∧
    ¬ OffersReset s :=
  ⟨offering (.cmd 0x300) (compressing blockE 0 iv), rfl, by simp [offering], by
    rintro ⟨e, rest, h, he⟩; cases h; cases he⟩
theorem witness_StepRuns_reset : ∃ (s : State) (e : HostEvent) (rest : List HostEvent),
    s.running = true ∧ s.port = e :: rest ∧ e.isReset = true :=
  ⟨offering .reset (compressing blockE 5 iv), .reset, [], rfl, rfl, rfl⟩
theorem witness_StepRuns_sample : ∃ (s : State) (rest : List HostEvent),
    s.running = false ∧ s.port = .sample :: rest := ⟨offering .sample State.reset, [], rfl, rfl⟩
theorem witness_StepRuns_transfer : ∃ (s : State) (rest : List HostEvent),
    s.running = false ∧ s.port = .transfer :: rest := ⟨offering .transfer State.reset, [], rfl, rfl⟩
theorem witness_StepRuns_idle : ∃ s : State, s.running = false ∧ s.port = [] :=
  ⟨State.reset, rfl, rfl⟩

theorem witness_OctetsDecode : ∃ (bs : List Byte) (i : Instr), decodeBytes bs = .ok i :=
  ⟨[0xFF, 0x03], .read 0xF 0xF, by decide⟩

/-- The ends of the range of each `op`. -/
theorem witness_CommandWords :
    (0x000#10).toNat / 256 = 0 ∧ (0x0FF#10).toNat / 256 = 0 ∧ (0x100#10).toNat / 256 = 1 ∧
    (0x1FF#10).toNat / 256 = 1 ∧ (0x200#10).toNat / 256 = 2 ∧ (0x2FF#10).toNat / 256 = 2 ∧
    (0x300#10).toNat / 256 = 3 ∧ (0x3FF#10).toNat / 256 = 3 := by decide

/-- INIT with the ends of its ignored bits, and then the transfer of its response. -/
theorem witness_ResetLeaves : ∀ w ∈ ([0x000, 0x0FF] : List (BitVec 10)), opField w = 0 ∧
    ({ finalWith e1 true with port := [.cmd w, .transfer] } : State).running = false ∧
    nextHas (stepTimes 2 { finalWith e1 true with port := [.cmd w, .transfer] }) (fun s =>
      s.rsp = none ∧ s.h = iv ∧ s.uerr = false) := by decide +kernel

theorem witness_ResetReplaces : ∃ (s : State) (e : HostEvent) (rest : List HostEvent),
    s.port = e :: rest ∧ e.isReset = true :=
  ⟨offering (.resetDuring 0x200) (finalWith e1 true), .resetDuring 0x200, [], rfl, rfl⟩

theorem witness_Update_finalized : ∃ s : State, s.fin = true := ⟨finalWith e1 false, rfl⟩
theorem witness_Update_len_0_and_62 :
    (∃ s : State, s.fin = false ∧ s.len.toNat = 0 ∧ s.len.toNat < 63) ∧
    (∃ s : State, s.fin = false ∧ s.len.toNat = 62 ∧ s.len.toNat < 63) :=
  ⟨⟨State.reset, by decide⟩, ⟨openWith iv (seq 62) 496, by decide⟩⟩
theorem witness_Update_len_63 : ∃ (s : State) (p : List Byte), s.fin = false ∧ s.len.toNat = 63 ∧
    p.length = 63 ∧ s.buf = cellsFrom 0 p :=
  ⟨openWith iv (seq 63) 504, seq 63, by decide⟩

theorem witness_UpdateStores : ∃ s t : State, s.fin = false ∧ s.len.toNat < 63 ∧
    exec (.update 0x48) s = .next t := ⟨State.reset, _, rfl, by decide, rfl⟩
theorem witness_UpdateStores_len_62 :
    (openWith iv (seq 62) 496).fin = false ∧ (openWith iv (seq 62) 496).len.toNat < 63 ∧
      isNext (exec (.update 0x48) (openWith iv (seq 62) 496)) := by decide

theorem witness_PadSequence : (55#6).toNat ≤ 55 ∧ (0#6).toNat ≤ 55 ∧ 56 ≤ (56#6).toNat ∧
    56 ≤ (63#6).toNat ∧ (55#6).toNat = 55 ∧ (56#6).toNat = 56 := by decide

/-- No, 55, 56 and 63 pending octets: the ends of the one-block and of the two-block case. -/
theorem witness_Final_open : ∀ n ∈ [0, 55, 56, 63],
    (openWith iv (seq n) 0).fin = false ∧ (seq n).length = (openWith iv (seq n) 0).len.toNat ∧
      (openWith iv (seq n) 0).buf = cellsFrom 0 (seq n) := by decide
theorem witness_Final_finalized : ∃ s : State, s.fin = true := ⟨finalWith e1 true, rfl⟩

theorem witness_Read : (∃ s : State, s.fin = false) ∧ (∃ s : State, s.fin = true) ∧
    (∃ s : State, s.fin = true ∧ s.h = ⟨0xD98C1DD4, 0x04B2008F, 0x980980E9, 0x7E42F8EC⟩) :=
  ⟨⟨State.reset, rfl⟩, ⟨finalWith iv false, rfl⟩, ⟨finalWith e1 false, rfl, rfl⟩⟩

theorem witness_DigestOctets : ∃ (h : Quad) (s : State), s.fin = true ∧ s.h = h :=
  ⟨e1, finalWith e1 false, rfl, rfl⟩

/-- A command that errs and one that does not. -/
theorem witness_UsageError : (Instr.read 0 15).isCommand = true ∧
    isNext (exec (.read 0 15) State.reset) ∧ isNext (exec (.read 0 15) (finalWith e1 false)) ∧
    isNext (exec (.update 0) (finalWith e1 false)) ∧ isNext (exec (.final 0) (finalWith e1 false)) := by
  decide

theorem witness_Rejected :
    (∃ (s : State) (i : Instr), (∃ x, i = .update x) ∧ s.fin = true) ∧
    (∃ (s : State) (i : Instr), (∃ d, i = .final d) ∧ s.fin = true) ∧
    (∃ (s : State) (i : Instr), (∃ g k, i = .read g k) ∧ s.fin = false) :=
  ⟨⟨finalWith e1 false, _, ⟨0x48, rfl⟩, rfl⟩, ⟨finalWith e1 true, _, ⟨0xFF, rfl⟩, rfl⟩,
    ⟨State.reset, _, ⟨0xF, 15, rfl⟩, rfl⟩⟩

theorem witness_EveryCommandAnswers : (Instr.update 0x48).isCommand = true ∧
    isNext (exec (.update 0x48) State.reset) ∧ Instr.step0.isCommand = false ∧
    isNext (exec .step0 (compressing blockE 0 iv)) := by decide

/-- Every message word of block E can be read, so every step rule has a state that meets it. -/
theorem witness_Steps : ∀ j : BitVec 4,
    readWord (compressing blockE 0 iv).buf j = some (if j = 0 then 0x00000080 else 0) := by
  decide

theorem witness_EveryStepFollowsTheTables : ∀ t ∈ ([0, 15, 16, 31, 32, 47, 48, 62, 63] : List (BitVec 6)),
    (readWord (compressing blockE t iv).buf (BitVec.ofNat 4
      ([t.toNat, 5 * t.toNat + 1, 3 * t.toNat + 5, 7 * t.toNat].getD (t.toNat / 16) 0 % 16))).isSome := by
  decide

theorem witness_DeadCells : readWord State.reset.buf (widx 0) = none ∧
    readWord (openWith iv (seq 3) 24).buf (widx 0) = none ∧
    readWord (compressing blockE 63 iv).buf (widx 63) ≠ none := by decide

theorem witness_SixtyFourSteps : ∃ (s : State) (blk : List Byte), blk.length = 64 ∧
    s.buf = cellsFrom 0 blk ∧ ¬ OffersReset s :=
  ⟨openWith iv blockE 0, blockE, by decide, rfl, by rintro ⟨e, rest, h, -⟩; cases h⟩

theorem witness_Rotation : (1 : Nat) ≤ 1 ∧ (1 : Nat) ≤ 31 ∧ (31 : Nat) ≤ 31 ∧ (0 : Nat) < 32 ∧
    (31 : Nat) < 32 := by decide

theorem witness_MessageWords : blockE.length = 64 ∧ (List.replicate 56 (0x61 : Byte)).length = 56 := by
  decide

/-- The invariant is met by reset, by a full accumulator and by a Finalized engine, and a step goes on. -/
theorem witness_Invariant_reset : Inv (offering (.cmd 0x148) State.reset) ∧
    isNext (step (offering (.cmd 0x148) State.reset)) := by decide
theorem witness_Invariant_full : Inv (offering (.cmd 0x13F) (openWith iv (seq 63) 504)) ∧
    isNext (step (offering (.cmd 0x13F) (openWith iv (seq 63) 504))) := by decide
theorem witness_Invariant_finalized : Inv (offering (.cmd 0x30F) (finalWith e1 true)) ∧
    isNext (step (offering (.cmd 0x30F) (finalWith e1 true))) := by decide

theorem witness_BufStaysCanonical : Memory.wf (openWith iv (seq 63) 504).buf = true ∧
    isNext (step (offering (.cmd 0x13F) (openWith iv (seq 63) 504))) := by decide

/-- The three ways to read a cell that holds no value. -/
theorem witness_NoInstructionIsRefused :
    (∃ f, exec .step0 State.reset = .fault f) ∧
    (∃ f, exec (.update 0) { State.reset with len := 63 } = .fault f) ∧
    (∃ f, exec (.final 0) { State.reset with len := 1 } = .fault f) :=
  ⟨⟨.deadCell 0, rfl⟩, ⟨.deadCell 0, rfl⟩, ⟨.deadCell 0, rfl⟩⟩

/-- Each `op` and a reset offered to an Open and to a Finalized engine. -/
theorem witness_Offers : OffersOp (offering (.cmd 0x0FF) State.reset) 0 ∧
    OffersOp (offering (.cmd 0x100) State.reset) 1 ∧ OffersOp (offering (.cmd 0x2FF) State.reset) 2 ∧
    OffersOp (offering (.cmd 0x300) State.reset) 3 ∧ OffersReset (offering .reset State.reset) :=
  ⟨⟨_, _, rfl, rfl⟩, ⟨_, _, rfl, rfl⟩, ⟨_, _, rfl, rfl⟩, ⟨_, _, rfl, rfl⟩, ⟨_, _, rfl, rfl⟩⟩
theorem witness_Ready_open : ∀ e ∈ [HostEvent.cmd 0x000, .cmd 0x148, .cmd 0x200, .cmd 0x300, .reset,
      .resetDuring 0x148, .transfer, .sample],
    (offering e State.reset).running = false ∧ (offering e State.reset).fin = false ∧
      isNext (step (offering e State.reset)) := by decide
theorem witness_Ready_finalized : ∀ e ∈ [HostEvent.cmd 0x000, .cmd 0x148, .cmd 0x200, .cmd 0x300,
      .reset, .resetDuring 0x148, .transfer, .sample],
    (offering e (finalWith e1 true)).running = false ∧ (offering e (finalWith e1 true)).fin = true ∧
      isNext (step (offering e (finalWith e1 true))) := by decide
/-- What is neither INIT nor reset: READ and a sample. -/
theorem witness_Digest_kept :
    (¬ OffersOp (offering (.cmd 0x300) (finalWith e1 true)) 0 ∧
      ¬ OffersReset (offering (.cmd 0x300) (finalWith e1 true))) ∧
    (¬ OffersOp (offering .sample (finalWith e1 true)) 0 ∧
      ¬ OffersReset (offering .sample (finalWith e1 true))) := by
  refine ⟨⟨?_, ?_⟩, ?_, ?_⟩
  · rintro ⟨w, rest, h, ho⟩; cases h; revert ho; decide
  · rintro ⟨e, rest, h, he⟩; cases h; cases he
  · rintro ⟨w, rest, h, -⟩; cases h
  · rintro ⟨e, rest, h, he⟩; cases h; cases he
/-- An UPDATE that ends no block: H is not written. -/
theorem witness_Chaining_kept :
    ¬ (OffersOp (offering (.cmd 0x148) (openWith iv (seq 62) 496)) 1 ∧
        (openWith iv (seq 62) 496).fin = false ∧ (openWith iv (seq 62) 496).len.toNat = 63) ∧
    ¬ (OffersOp (offering (.cmd 0x148) (openWith iv (seq 62) 496)) 2 ∧
        (openWith iv (seq 62) 496).fin = false) := by
  refine ⟨fun h => absurd h.2.2 (by decide), ?_⟩
  rintro ⟨⟨w, rest, h, ho⟩, -⟩; cases h; revert ho; decide

theorem witness_Holds_empty : Holds [] State.reset := by decide
theorem witness_Holds_63 : Holds (seq 63) (openWith iv (seq 63) 504) := by decide
theorem witness_Holds_64 :
    Holds (seq 64) (openWith ⟨0x9144D9CA, 0xD901E4C9, 0x72FC5B38, 0x625FF51E⟩ [] 512) := by
  decide +kernel
theorem witness_Holds_55_and_56 : Holds (seq 55) (openWith iv (seq 55) 440) ∧
    Holds (seq 56) (openWith iv (seq 56) 448) := by decide

theorem witness_HashCommands : ∃ s : State, s.running = false := ⟨finalWith e1 true, rfl⟩

theorem witness_UerrNeverBlocks : isNext (exec (.update 0x48) State.reset) ∧
    isNext (exec .step63 (compressing blockE 63 iv)) := by decide

theorem witness_Sampling : (∃ (s : State) (rest : List HostEvent), s.running = false ∧
      s.port = .sample :: rest ∧ s.fin = false) ∧
    (∃ (s : State) (rest : List HostEvent), s.running = false ∧ s.port = .sample :: rest ∧
      s.fin = true) :=
  ⟨⟨offering .sample State.reset, [], rfl, rfl, rfl⟩,
    ⟨offering .sample (finalWith e1 false), [], rfl, rfl, rfl⟩⟩

/-- A command, a transfer, a reset, and what is none of them. -/
theorem witness_ResponseIsPresent :
    isNext (step (offering (.cmd 0x000) State.reset)) ∧
    isNext (step (offering .transfer { State.reset with rsp := some 0x1FF })) ∧
    isNext (step (offering .reset { State.reset with rsp := some 0x000 })) := by decide
theorem witness_ResponseIsPresent_kept :
    (∀ op, ¬ OffersOp (offering .sample State.reset) op) ∧ ¬ OffersReset (offering .sample State.reset) ∧
      ∀ rest, (offering .sample State.reset).port ≠ .transfer :: rest := by
  refine ⟨?_, ?_, fun rest h => nomatch h⟩
  · rintro op ⟨w, rest, h, -⟩; cases h
  · rintro ⟨e, rest, h, he⟩; cases h; cases he

end Sys2Proof.Tests
end

section
/-! PROOFS. The primitives of 00_scope.md R10: rotation of a word, the word of four octets, and the octets of a
word, each as a general law of its function. -/

namespace Sys2Proof.Machine

/-- On the range R10 gives it, the model's rotation is the library's. -/
theorem rotl32_eq_rotateLeft (x : Word) {n : Nat} (hn : n < 32) : rotl32 x n = x.rotateLeft n := by
  rw [BitVec.rotateLeft_eq_rotateLeftAux_of_lt hn]
  rfl

/-- The rotation moves a bit up by `n` places, and a bit that leaves at the top comes in at the bottom. -/
theorem rotl32_getLsbD_add_mod (x : Word) {n i : Nat} (hn : n < 32) (hi : i < 32) :
    (rotl32 x n).getLsbD ((i + n) % 32) = x.getLsbD i := by
  rw [rotl32_eq_rotateLeft x hn, BitVec.getLsbD_rotateLeft, Nat.mod_eq_of_lt hn]
  rcases Nat.lt_or_ge (i + n) 32 with hstays | hwraps
  · simp [Nat.mod_eq_of_lt hstays, hstays]
  · have hmod : (i + n) % 32 = i + n - 32 := by omega
    have hlow : i + n - 32 < n := by omega
    have hback : 32 - n + (i + n - 32) = i := by omega
    simp [hmod, hlow, hback]

/-- An octet appended below a vector. -/
theorem toNat_append_octet {w : Nat} (x : BitVec w) (b : Byte) :
    (x ++ b).toNat = b.toNat + 2 ^ 8 * x.toNat := by
  rw [BitVec.toNat_append, ← Nat.shiftLeft_add_eq_or_of_lt b.isLt, Nat.shiftLeft_eq]
  omega

theorem le32_toNat (b0 b1 b2 b3 : Byte) : (le32 b0 b1 b2 b3).toNat =
    b0.toNat + 2 ^ 8 * b1.toNat + 2 ^ 16 * b2.toNat + 2 ^ 24 * b3.toNat := by
  simp only [le32, toNat_append_octet]
  omega

/-- Octet `i` of a vector is its digit of weight 256^i. -/
theorem extractLsb'_octet {w : Nat} (x : BitVec w) (i : Nat) :
    x.extractLsb' (8 * i) 8 = BitVec.ofNat 8 (x.toNat / 256 ^ i) := by
  have hweight : 2 ^ (8 * i) = 256 ^ i := pow_mul 2 8 i
  rw [BitVec.extractLsb', Nat.shiftRight_eq_div_pow, hweight]

theorem bytesLE32_eq_map_digits (w : Word) :
    bytesLE32 w = (List.range 4).map fun i => BitVec.ofNat 8 (w.toNat / 256 ^ i) := by
  simp only [← extractLsb'_octet]
  rfl

theorem bytesLE64_eq_map_digits (n : BitVec 64) :
    bytesLE64 n = (List.range 8).map fun i => BitVec.ofNat 8 (n.toNat / 256 ^ i) := by
  simp only [← extractLsb'_octet]
  rfl

/-- Settles O30: the bit law of the rotation, the weights of LE32, and the digits of the two byte views. -/
theorem rotationAndByteViewsAreExact : Obligations.RotationAndByteViewsAreExact :=
  ⟨fun x _ _ _ hn hi => rotl32_getLsbD_add_mod x (Nat.lt_succ_of_le hn) hi,
    le32_toNat, bytesLE32_eq_map_digits, bytesLE64_eq_map_digits⟩

end Sys2Proof.Machine
end

section
/-! PROOFS. What each command answers, one equation per branch of its rule (43 R190, R191, R194; 44 R201 to R204),
and the command a word selects by its `op` (30 R72). -/

namespace Sys2Proof.Machine

theorem exec_init (d : BitVec 8) (s : State) :
    exec (.init d) s = .next (respond false 0 (initialise s)) := rfl

theorem exec_update_rejected (x : BitVec 8) {s : State} (hfin : s.fin = true) :
    exec (.update x) s = .next (raiseUsageError s) :=
  if_pos hfin

theorem exec_update_stored (x : BitVec 8) {s : State} (hfin : s.fin = false) (hlen : s.len ≠ 63) :
    exec (.update x) s = .next (respond false 0 (advanceLen (storeOctet x s))) := by
  rw [exec, execUpdate, openOnlyRejected, hfin, if_neg Bool.false_ne_true, if_neg hlen]

theorem exec_update_block (x : BitVec 8) {s : State} (hfin : s.fin = false) (hlen : s.len = 63) :
    exec (.update x) s =
      andThen (compress (storeOctet x s)) fun u => .next (respond false 0 (emptyBuffer u)) := by
  simp [exec, execUpdate, openOnlyRejected, hfin, hlen]

theorem exec_final_rejected (d : BitVec 8) {s : State} (hfin : s.fin = true) :
    exec (.final d) s = .next (raiseUsageError s) :=
  if_pos hfin

theorem exec_final_accepted (d : BitVec 8) {s : State} (hfin : s.fin = false) :
    exec (.final d) s =
      andThen (padAndCompress s) fun u => .next (respond false 0 (finalise u)) := by
  simp [exec, execFinal, openOnlyRejected, hfin]

theorem exec_read_rejected (g k : BitVec 4) {s : State} (hfin : s.fin = false) :
    exec (.read g k) s = .next (raiseUsageError s) := by
  simp [exec, execRead, finalizedOnlyRejected, hfin]

theorem exec_read_accepted (g k : BitVec 4) {s : State} (hfin : s.fin = true) :
    exec (.read g k) s = .next (respond false (digestOctet s.h k) s) := by
  simp [exec, execRead, finalizedOnlyRejected, hfin]

/-- If UPDATE answers a next state, it was rejected, stored an octet, or completed a block (43 R190, R191, R194). -/
theorem exec_update_eq_next {x : BitVec 8} {s t : State} (h : exec (.update x) s = .next t) :
    (s.fin = true ∧ t = raiseUsageError s) ∨
    (s.fin = false ∧ s.len ≠ 63 ∧ t = respond false 0 (advanceLen (storeOctet x s))) ∨
    (s.fin = false ∧ s.len = 63 ∧
      ∃ u, compress (storeOctet x s) = .next u ∧ t = respond false 0 (emptyBuffer u)) := by
  cases hfin : s.fin with
  | true =>
    rw [exec_update_rejected x hfin] at h
    cases h
    exact .inl ⟨rfl, rfl⟩
  | false =>
    by_cases hlen : s.len = 63
    · rw [exec_update_block x hfin hlen] at h
      obtain ⟨u, hcompress, h⟩ := andThen_eq_next h
      cases h
      exact .inr (.inr ⟨rfl, hlen, u, hcompress, rfl⟩)
    · rw [exec_update_stored x hfin hlen] at h
      cases h
      exact .inr (.inl ⟨rfl, hlen, rfl⟩)

/-- If FINAL answers a next state, it was rejected or finalised the padded message (44 R202, R203). -/
theorem exec_final_eq_next {d : BitVec 8} {s t : State} (h : exec (.final d) s = .next t) :
    (s.fin = true ∧ t = raiseUsageError s) ∨
    (s.fin = false ∧ ∃ u, padAndCompress s = .next u ∧ t = respond false 0 (finalise u)) := by
  cases hfin : s.fin with
  | true =>
    rw [exec_final_rejected d hfin] at h
    cases h
    exact .inl ⟨rfl, rfl⟩
  | false =>
    rw [exec_final_accepted d hfin] at h
    obtain ⟨u, hpad, h⟩ := andThen_eq_next h
    cases h
    exact .inr ⟨rfl, u, hpad, rfl⟩

/-- If READ answers a next state, it was rejected or answered an octet of the Digest (44 R204). -/
theorem exec_read_eq_next {g k : BitVec 4} {s t : State} (h : exec (.read g k) s = .next t) :
    (s.fin = false ∧ t = raiseUsageError s) ∨
    (s.fin = true ∧ t = respond false (digestOctet s.h k) s) := by
  cases hfin : s.fin with
  | false =>
    rw [exec_read_rejected g k hfin] at h
    cases h
    exact .inl ⟨rfl, rfl⟩
  | true =>
    rw [exec_read_accepted g k hfin] at h
    cases h
    exact .inr ⟨rfl, rfl⟩

theorem decodeCmd_op_zero {w : BitVec 10} (h : opField w = 0) : decodeCmd w = .init (dataField w) :=
  if_pos h

theorem decodeCmd_op_one {w : BitVec 10} (h : opField w = 1) :
    decodeCmd w = .update (dataField w) := by
  simp [decodeCmd, h]

theorem decodeCmd_op_two {w : BitVec 10} (h : opField w = 2) :
    decodeCmd w = .final (dataField w) := by
  simp [decodeCmd, h]

theorem decodeCmd_op_three {w : BitVec 10} (h : opField w = 3) :
    decodeCmd w = .read (ignField w) (indexField w) := by
  simp [decodeCmd, h]

/-- `op` has four values, each one of the commands (30 R72). -/
theorem opField_cases (w : BitVec 10) :
    opField w = 0 ∨ opField w = 1 ∨ opField w = 2 ∨ opField w = 3 := by
  generalize opField w = op
  revert op
  decide

end Sys2Proof.Machine
end

section
/-! PROOFS. What the host offers decides what a step of a ready engine is: one inversion of that step, with what the
host offers in each case. Every statement about one register between commands is read off it. -/

namespace Sys2Proof.Machine

/-! ### The host offers one thing at a time -/

theorem OffersOp.offersOp_iff {s : State} {a : BitVec 2} (h : OffersOp s a) (b : BitVec 2) :
    OffersOp s b ↔ a = b := by
  obtain ⟨w, rest, hp, rfl⟩ := h
  constructor
  · rintro ⟨w', rest', hp', rfl⟩
    cases hp.symm.trans hp'
    rfl
  · intro hop
    exact ⟨w, rest, hp, hop⟩

theorem OffersOp.not_offersReset {s : State} {a : BitVec 2} (h : OffersOp s a) : ¬ OffersReset s := by
  obtain ⟨w, rest, hp, -⟩ := h
  rintro ⟨e, rest', hp', he⟩
  cases hp.symm.trans hp'
  exact nomatch he

theorem OffersReset.not_offersOp {s : State} (h : OffersReset s) (a : BitVec 2) : ¬ OffersOp s a :=
  fun hop => hop.not_offersReset h

/-- The host offers neither a command nor a reset: nothing, a transfer or a sampling (30 R70, 70 R243). -/
def OffersNoCommand (s : State) : Prop := (∀ op, ¬ OffersOp s op) ∧ ¬ OffersReset s

theorem offersNoCommand_of_idle {s : State} (hp : s.port = []) : OffersNoCommand s := by
  simp [OffersNoCommand, OffersOp, OffersReset, hp]

theorem offersNoCommand_of_transfer {s : State} {rest : List HostEvent}
    (hp : s.port = .transfer :: rest) : OffersNoCommand s := by
  simp [OffersNoCommand, OffersOp, OffersReset, hp, HostEvent.isReset]

theorem offersNoCommand_of_sample {s : State} {rest : List HostEvent}
    (hp : s.port = .sample :: rest) : OffersNoCommand s := by
  simp [OffersNoCommand, OffersOp, OffersReset, hp, HostEvent.isReset]

/-! ### The step of a ready engine -/

/-- The command with this `op` is rejected in the phase that FIN names (60 R221). -/
def RejectedOp (op : BitVec 2) (fin : Bool) : Prop :=
  (op = 1 ∧ fin = true) ∨ (op = 2 ∧ fin = true) ∨ (op = 3 ∧ fin = false)

/-- The states a step of a ready engine can answer, by what the host offers and by the branch of the command's rule. -/
inductive ReadyStep (s : State) : State → Prop
  /-- Only the ports and the host's records can change (60 R231, 30 R70, 70 R243). -/
  | quiet (port : List HostEvent) (rsp : Option (BitVec 9)) (seen : List Outputs) (draws : Nat)
      (hoffer : OffersNoCommand s) :
      ReadyStep s { s with port := port, rsp := rsp, seen := seen, draws := draws }
  /-- Reset (70 R240, R241). -/
  | reset (rest : List HostEvent) (hoffer : OffersReset s) :
      ReadyStep s (resetBy { s with port := rest })
  /-- INIT (44 R201). -/
  | init (rest : List HostEvent) (hoffer : OffersOp s 0) :
      ReadyStep s (respond false 0 (initialise { s with port := rest }))
  /-- A command that its phase rejects (60 R222). -/
  | rejected (rest : List HostEvent) (op : BitVec 2) (hoffer : OffersOp s op)
      (hphase : RejectedOp op s.fin) :
      ReadyStep s (raiseUsageError { s with port := rest })
  /-- UPDATE that leaves the block incomplete (43 R190). -/
  | stored (rest : List HostEvent) (x : Byte) (hoffer : OffersOp s 1) (hfin : s.fin = false)
      (hlen : s.len ≠ 63) :
      ReadyStep s (respond false 0 (advanceLen (storeOctet x { s with port := rest })))
  /-- UPDATE that completes a block (43 R191). -/
  | block (rest : List HostEvent) (x : Byte) (u : State) (hoffer : OffersOp s 1) (hfin : s.fin = false)
      (hlen : s.len = 63) (hcompress : compress (storeOctet x { s with port := rest }) = .next u) :
      ReadyStep s (respond false 0 (emptyBuffer u))
  /-- FINAL (44 R202). -/
  | finalised (rest : List HostEvent) (u : State) (hoffer : OffersOp s 2) (hfin : s.fin = false)
      (hpad : padAndCompress { s with port := rest } = .next u) :
      ReadyStep s (respond false 0 (finalise u))
  /-- READ (44 R204). -/
  | read (rest : List HostEvent) (k : BitVec 4) (hoffer : OffersOp s 3) (hfin : s.fin = true) :
      ReadyStep s (respond false (digestOctet s.h k) { s with port := rest })

/-- The command a ready engine accepts, by its `op` and the phase. -/
theorem readyStep_of_cmd {s t : State} {w : BitVec 10} {rest : List HostEvent}
    (hp : s.port = .cmd w :: rest) (h : exec (decodeCmd w) { s with port := rest } = .next t) :
    ReadyStep s t := by
  have hoffer : ∀ {op}, opField w = op → OffersOp s op := fun hop => ⟨w, rest, hp, hop⟩
  rcases opField_cases w with hop | hop | hop | hop
  · rw [decodeCmd_op_zero hop, exec_init] at h
    cases h
    exact .init rest (hoffer hop)
  · rw [decodeCmd_op_one hop] at h
    rcases exec_update_eq_next h with ⟨hfin, rfl⟩ | ⟨hfin, hlen, rfl⟩ | ⟨hfin, hlen, u, hcompress, rfl⟩
    · exact .rejected rest 1 (hoffer hop) (.inl ⟨rfl, hfin⟩)
    · exact .stored rest _ (hoffer hop) hfin hlen
    · exact .block rest _ u (hoffer hop) hfin hlen hcompress
  · rw [decodeCmd_op_two hop] at h
    rcases exec_final_eq_next h with ⟨hfin, rfl⟩ | ⟨hfin, u, hpad, rfl⟩
    · exact .rejected rest 2 (hoffer hop) (.inr (.inl ⟨rfl, hfin⟩))
    · exact .finalised rest u (hoffer hop) hfin hpad
  · rw [decodeCmd_op_three hop] at h
    rcases exec_read_eq_next h with ⟨hfin, rfl⟩ | ⟨hfin, rfl⟩
    · exact .rejected rest 3 (hoffer hop) (.inr (.inr ⟨rfl, hfin⟩))
    · exact .read rest _ (hoffer hop) hfin

theorem readyStep_of_step {s t : State} (hr : s.running = false) (h : step s = .next t) :
    ReadyStep s t := by
  rcases step_ready_cases hr h with
    ⟨hp, rfl⟩ | ⟨w, rest, hp, h⟩ | ⟨e, rest, hp, he, rfl⟩ | ⟨rest, hp, rfl⟩ | ⟨rest, hp, rfl⟩
  · exact .quiet _ _ _ _ (offersNoCommand_of_idle hp)
  · exact readyStep_of_cmd hp h
  · exact .reset rest ⟨e, rest, hp, he⟩
  · exact .quiet _ _ _ _ (offersNoCommand_of_transfer hp)
  · exact .quiet _ _ _ _ (offersNoCommand_of_sample hp)

end Sys2Proof.Machine
end

section
/-! PROOFS. The invariant of the engine between commands (10 R25, R31 items 1, 2 and 4): it holds at reset, and every
step keeps it. -/

namespace Sys2Proof.Machine

/-- Counting one octet advances LEN's bits of BITCNT by one, modulo 64. -/
theorem extractLsb'_len_add_eight (n : BitVec 64) :
    (n + 8).extractLsb' 3 6 = n.extractLsb' 3 6 + 1 := by
  apply BitVec.eq_of_toNat_eq
  simp only [BitVec.toNat_add, BitVec.extractLsb'_toNat, BitVec.ofNat_eq_ofNat, BitVec.toNat_ofNat,
    Nat.shiftRight_eq_div_pow]
  omega

/-- Counting one octet leaves BITCNT's bits below LEN's alone. -/
theorem extractLsb'_low_add_eight (n : BitVec 64) :
    (n + 8).extractLsb' 0 3 = n.extractLsb' 0 3 := by
  apply BitVec.eq_of_toNat_eq
  simp only [BitVec.toNat_add, BitVec.extractLsb'_toNat, BitVec.ofNat_eq_ofNat, BitVec.toNat_ofNat, Nat.shiftRight_zero]
  omega

/-- LEN counts one octet more without a wrap. -/
theorem toNat_len_add_one {len : BitVec 6} (h : len ≠ 63) : (len + 1).toNat = len.toNat + 1 := by
  bv_omega

/-- The octet stored stands behind the pending octets. -/
theorem storeOctet_cells {s : State} {p : List Byte} (hbuf : s.buf = cellsFrom 0 p)
    (hp : p.length = s.len.toNat) (x : Byte) : (storeOctet x s).buf = cellsFrom 0 (p ++ [x]) := by
  rw [storeOctet_buf, hbuf, ← hp]
  simpa using writeByte_cellsFrom_end 0 p x

/-- The octets that pend in an engine that meets the invariant. -/
theorem Inv.pending {s : State} (h : Inv s) :
    ∃ p : List Byte, s.buf = cellsFrom 0 p ∧ p.length = s.len.toNat := by
  obtain ⟨-, hbuf, -, -⟩ := h
  refine ⟨s.buf.map Prod.snd, eq_cellsFrom_of_range hbuf, ?_⟩
  simpa using congrArg List.length hbuf

/-- With no octet pending, the invariant asks nothing of the cells. -/
theorem Inv.of_empty {s : State} (hr : s.running = false) (hbuf : s.buf = []) (hlen : s.len = 0)
    (hcount : s.fin = false → s.bitcnt.extractLsb' 0 3 = 0 ∧ s.bitcnt.extractLsb' 3 6 = 0) : Inv s := by
  refine ⟨hr, by simp [hbuf, hlen], fun hfin => ?_, fun _ => hlen⟩
  obtain ⟨hlow, hbits⟩ := hcount hfin
  exact ⟨hlow, hlen.trans hbits.symm⟩

theorem Inv.stored {s : State} (h : Inv s) (hfin : s.fin = false) (hlen : s.len ≠ 63) (x : Byte) :
    Inv (advanceLen (storeOctet x s)) := by
  obtain ⟨p, hbuf, hp⟩ := h.pending
  obtain ⟨hr, -, hopen, -⟩ := h
  obtain ⟨hlow, hbits⟩ := hopen hfin
  refine ⟨hr, ?_, fun _ => ⟨?_, ?_⟩, fun h => ?_⟩
  · rw [advanceLen_buf, storeOctet_cells hbuf hp x, cellsFrom_addresses_zero, advanceLen_len, storeOctet_len,
      toNat_len_add_one hlen, List.length_append, hp, List.length_singleton]
  · rw [advanceLen_bitcnt, storeOctet_bitcnt, extractLsb'_low_add_eight, hlow]
  · rw [advanceLen_len, advanceLen_bitcnt, storeOctet_len, storeOctet_bitcnt, extractLsb'_len_add_eight, hbits]
  · exact absurd (hfin.symm.trans h) Bool.false_ne_true

theorem Inv.block {s u : State} (h : Inv s) (hfin : s.fin = false) (hlen : s.len = 63) {x : Byte}
    (hcompress : compress (storeOctet x s) = .next u) : Inv (emptyBuffer u) := by
  obtain ⟨p, hbuf, hp⟩ := h.pending
  obtain ⟨-, -, hopen, -⟩ := h
  obtain ⟨hlow, hbits⟩ := hopen hfin
  have hblock : (p ++ [x]).length = 64 := by simp [hp, hlen]
  obtain ⟨v, hv, -, hr, hframe⟩ := compress_full hblock (storeOctet_cells hbuf hp x)
  cases hcompress.symm.trans hv
  have hcount : u.bitcnt = s.bitcnt + 8 := hframe.bitcnt
  refine .of_empty hr rfl rfl fun _ => ⟨?_, ?_⟩
  · rw [emptyBuffer_bitcnt, hcount, extractLsb'_low_add_eight, hlow]
  · rw [emptyBuffer_bitcnt, hcount, extractLsb'_len_add_eight, ← hbits, hlen]
    rfl

theorem Inv.finalised {s u : State} (h : Inv s) (hpad : padAndCompress s = .next u) :
    Inv (finalise u) := by
  obtain ⟨p, hbuf, hp⟩ := h.pending
  obtain ⟨v, hv, -, hr, -⟩ := padAndCompress_eq hbuf hp
  cases hpad.symm.trans hv
  exact .of_empty hr rfl rfl fun hopen => nomatch hopen

theorem Inv.initialised {s : State} (hr : s.running = false) : Inv (initialise s) :=
  .of_empty hr rfl rfl fun _ => by simp

theorem inv_reset : Inv State.reset := .of_empty rfl rfl rfl fun _ => ⟨rfl, rfl⟩

/-- Settles O32, by the cases of a ready step: what is written empties the buffer or counts one octet stored behind
the others. -/
theorem stepKeepsTheInvariant : Obligations.StepKeepsTheInvariant := by
  intro s t hinv h
  have hr : s.running = false := hinv.1
  cases readyStep_of_step hr h with
  | quiet => exact hinv
  | reset => exact inv_reset
  | init rest => exact Inv.initialised (s := { s with port := rest }) hr
  | rejected => exact hinv
  | stored rest x _ hfin hlen => exact Inv.stored (s := { s with port := rest }) hinv hfin hlen x
  | block rest x u _ hfin hlen hcompress =>
    exact (Inv.block (s := { s with port := rest }) hinv hfin hlen hcompress :)
  | finalised rest u _ _ hpad => exact (Inv.finalised (s := { s with port := rest }) hinv hpad :)
  | read => exact hinv

end Sys2Proof.Machine
end

section
/-! PROOFS. The message an Open engine holds (10 R31 items 2 and 3): the chaining value of its complete blocks, and how
one octet more extends it, inside a block and at a block's end. -/

namespace Sys2Proof.Machine

/-! ### The chaining value of complete blocks -/

/-- Octets behind the first `n` blocks do not count. -/
theorem chain_append (h : Quad) {n : Nat} {bs : List Byte} (rest : List Byte) (hn : 64 * n ≤ bs.length) :
    chain h n (bs ++ rest) = chain h n bs := by
  induction n generalizing h bs with
  | zero => rfl
  | succ n ih =>
    have htake : (bs ++ rest).take 64 = bs.take 64 := List.take_append_of_le_length (by omega)
    have hdrop : (bs ++ rest).drop 64 = bs.drop 64 ++ rest := List.drop_append_of_le_length (by omega)
    have hlength : 64 * n ≤ (bs.drop 64).length := by rw [List.length_drop]; omega
    rw [chain, htake, hdrop, ih _ hlength, chain]

/-- One block more is one Compress more, at the end. -/
theorem chain_succ (h : Quad) (n : Nat) (bs : List Byte) :
    chain h (n + 1) bs = compressBlock (chain h n bs) ((bs.drop (64 * n)).take 64) := by
  induction n generalizing h bs with
  | zero => rfl
  | succ n ih =>
    rw [chain, ih, chain, List.drop_drop, Nat.mul_succ, Nat.add_comm 64]

/-! ### The octets after the last complete block -/

/-- The octets of `m` after its last complete block. -/
def pendingOctets (m : List Byte) : List Byte := m.drop (wholeOctets m)

theorem pendingOctets_length (m : List Byte) : (pendingOctets m).length = m.length % 64 := by
  rw [pendingOctets, wholeOctets, List.length_drop]
  omega

/-- Inside a block one octet more joins the pending octets. -/
theorem pendingOctets_snoc {m : List Byte} (x : Byte) (h : m.length % 64 ≠ 63) :
    pendingOctets (m ++ [x]) = pendingOctets m ++ [x] := by
  have hwhole : wholeOctets (m ++ [x]) = wholeOctets m := by
    simp only [wholeOctets, List.length_append, List.length_singleton]
    omega
  have hle : wholeOctets m ≤ m.length := by rw [wholeOctets]; omega
  rw [pendingOctets, hwhole, List.drop_append_of_le_length hle, pendingOctets]

/-- The 64th octet of a block leaves nothing pending. -/
theorem pendingOctets_snoc_full {m : List Byte} (x : Byte) (h : m.length % 64 = 63) :
    pendingOctets (m ++ [x]) = [] := by
  apply List.drop_of_length_le
  simp only [wholeOctets, List.length_append, List.length_singleton]
  omega

/-- Inside a block one octet more leaves the chaining value alone. -/
theorem chain_snoc {m : List Byte} (x : Byte) (h : m.length % 64 ≠ 63) :
    chain iv ((m ++ [x]).length / 64) (m ++ [x]) = chain iv (m.length / 64) m := by
  have hblocks : (m ++ [x]).length / 64 = m.length / 64 := by
    rw [List.length_append, List.length_singleton]
    omega
  rw [hblocks, chain_append _ _ (by omega)]

/-- The 64th octet of a block has the block compressed. -/
theorem chain_snoc_full {m : List Byte} (x : Byte) (h : m.length % 64 = 63) :
    chain iv ((m ++ [x]).length / 64) (m ++ [x]) =
      compressBlock (chain iv (m.length / 64) m) (pendingOctets m ++ [x]) := by
  have hblocks : (m ++ [x]).length / 64 = m.length / 64 + 1 := by
    rw [List.length_append, List.length_singleton]
    omega
  have hblock : ((m ++ [x]).drop (64 * (m.length / 64))).take 64 = pendingOctets m ++ [x] := by
    rw [List.drop_append_of_le_length (by omega)]
    apply List.take_of_length_le
    rw [List.length_append, List.length_drop, List.length_singleton]
    omega
  rw [hblocks, chain_succ, hblock, chain_append _ _ (by omega)]

/-! ### The engine that holds a message -/

/-- LEN counts the pending octets. -/
theorem Holds.len_toNat {m : List Byte} {s : State} (h : Holds m s) :
    s.len.toNat = (pendingOctets m).length := by
  obtain ⟨-, -, -, -, hlen, -⟩ := h
  rw [hlen, BitVec.toNat_ofNat, pendingOctets_length]

theorem Holds.len_eq_63_iff {m : List Byte} {s : State} (h : Holds m s) :
    s.len = 63 ↔ m.length % 64 = 63 := by
  rw [← pendingOctets_length, ← h.len_toNat]
  exact BitVec.toNat_inj.symm

theorem Holds.store_cells {m : List Byte} {s : State} (h : Holds m s) (x : Byte) :
    (storeOctet x s).buf = cellsFrom 0 (pendingOctets m ++ [x]) := by
  have hlen := h.len_toNat
  obtain ⟨-, -, -, hbuf, -, -⟩ := h
  exact storeOctet_cells hbuf hlen.symm x

theorem Holds.count_snoc {m : List Byte} {s : State} (h : Holds m s) (x : Byte) :
    s.bitcnt + 8 = BitVec.ofNat 64 (8 * (m ++ [x]).length) := by
  obtain ⟨-, -, -, -, -, hcount⟩ := h
  rw [hcount, List.length_append, List.length_singleton, Nat.mul_add, BitVec.ofNat_add]
  rfl

theorem holds_initialise {s : State} (hr : s.running = false) : Holds [] (initialise s) :=
  ⟨hr, rfl, rfl, rfl, rfl, rfl⟩

theorem holds_reset : Holds [] State.reset := ⟨rfl, rfl, rfl, rfl, rfl, rfl⟩

/-- UPDATE inside a block (43 R190). -/
theorem Holds.update_stored {m : List Byte} {s : State} (h : Holds m s) (x : Byte)
    (hlen : m.length % 64 ≠ 63) : Holds (m ++ [x]) (advanceLen (storeOctet x s)) := by
  have hcells := h.store_cells x
  have hcount := h.count_snoc x
  obtain ⟨hr, hfin, hh, -, hl, -⟩ := h
  refine ⟨hr, hfin, ?_, ?_, ?_, hcount⟩
  · exact hh.trans (chain_snoc x hlen).symm
  · exact hcells.trans (congrArg (cellsFrom 0) (pendingOctets_snoc x hlen).symm)
  · rw [advanceLen_len, storeOctet_len, hl, List.length_append, List.length_singleton, BitVec.ofNat_add]
    rfl

/-- UPDATE at the end of a block (43 R191). -/
theorem Holds.update_block {m : List Byte} {s : State} (h : Holds m s) (x : Byte)
    (hlen : m.length % 64 = 63) :
    ∃ u, compress (storeOctet x s) = .next u ∧ Holds (m ++ [x]) (emptyBuffer u) := by
  have hblock : (pendingOctets m ++ [x]).length = 64 := by
    rw [List.length_append, pendingOctets_length, hlen, List.length_singleton]
  obtain ⟨u, hu, huh, hur, hframe⟩ := compress_full hblock (h.store_cells x)
  have hcount := h.count_snoc x
  obtain ⟨-, hfin, hh, -, -, -⟩ := h
  refine ⟨u, hu, hur, hframe.fin.trans hfin, ?_, ?_, ?_, hframe.bitcnt.trans hcount⟩
  · rw [emptyBuffer_h, huh, storeOctet_h, hh, chain_snoc_full x hlen]
  · exact (congrArg (cellsFrom 0) (pendingOctets_snoc_full x hlen)).symm
  · apply BitVec.eq_of_toNat_eq
    rw [emptyBuffer_len, BitVec.toNat_ofNat, List.length_append, List.length_singleton]
    show 0 = (m.length + 1) % 2 ^ 6
    omega

theorem Holds.update {m : List Byte} {s : State} (h : Holds m s) (x : Byte) :
    ∃ t, exec (.update x) s = .next t ∧ Holds (m ++ [x]) t := by
  have hfin : s.fin = false := h.2.1
  by_cases hlen : s.len = 63
  · obtain ⟨u, hu, hholds⟩ := h.update_block x (h.len_eq_63_iff.1 hlen)
    rw [exec_update_block x hfin hlen, hu, andThen_next]
    exact ⟨_, rfl, hholds⟩
  · rw [exec_update_stored x hfin hlen]
    exact ⟨_, rfl, h.update_stored x (mt h.len_eq_63_iff.2 hlen)⟩

/-- Settles O42, by INIT's equation and, for UPDATE, by the two ways an octet joins the message. -/
theorem acceptedOctetsAreHeld : Obligations.AcceptedOctetsAreHeld :=
  ⟨fun d s hr => ⟨_, exec_init d s, holds_initialise hr⟩, fun _ x _ h => h.update x⟩

/-- Settles O33: the reset state is INIT's base of both the invariant and the message. -/
theorem resetMeetsTheInvariant : Obligations.ResetMeetsTheInvariant := ⟨inv_reset, holds_reset⟩

end Sys2Proof.Machine
end

section
/-! PROOFS. Which steps write FIN, UERR, BITCNT and H (10 R21, R24, R26, R27): each read off the cases of a
ready step. -/

namespace Sys2Proof.Machine

/-- Settles O37: among the ready steps only FINAL sets FIN, and only INIT and reset clear it. -/
theorem finChangesOnlyAsStated : Obligations.FinChangesOnlyAsStated := by
  intro s t hr h
  rw [← and_assoc]
  refine ⟨?_, rfl⟩
  cases readyStep_of_step hr h with
  | quiet _ _ _ _ hoffer =>
    obtain ⟨hop, hreset⟩ := hoffer
    simp [hop, hreset]
  | reset _ hoffer => simp [hoffer, hoffer.not_offersOp]
  | init _ hoffer => simp [hoffer.offersOp_iff]
  | rejected _ _ hoffer hphase =>
    rcases hphase with ⟨rfl, hfin⟩ | ⟨rfl, hfin⟩ | ⟨rfl, hfin⟩ <;>
      simp [hoffer.offersOp_iff, hoffer.not_offersReset, hfin]
  | stored _ _ hoffer hfin => simp [hoffer.offersOp_iff, hoffer.not_offersReset, hfin]
  | block _ _ u hoffer hfin _ hcompress =>
    have hu : u.fin = s.fin := (compress_frame hcompress).fin
    simp [hoffer.offersOp_iff, hoffer.not_offersReset, hu, hfin]
  | finalised _ _ hoffer hfin => simp [hoffer.offersOp_iff, hfin]
  | read _ _ hoffer hfin => simp [hoffer.offersOp_iff, hoffer.not_offersReset, hfin]

/-- Settles O38: among the ready steps a rejected command sets UERR, INIT and reset clear it, and no other step
writes it. -/
theorem uerrChangesOnlyAsStated : Obligations.UerrChangesOnlyAsStated := by
  intro s t hr h
  refine ⟨?_, rfl⟩
  cases readyStep_of_step hr h with
  | quiet _ _ _ _ hoffer =>
    obtain ⟨hop, hreset⟩ := hoffer
    simp [hop, hreset]
  | reset _ hoffer => simp [hoffer, hoffer.not_offersOp]
  | init _ hoffer => simp [hoffer.offersOp_iff]
  | rejected _ _ hoffer hphase =>
    rcases hphase with ⟨rfl, hfin⟩ | ⟨rfl, hfin⟩ | ⟨rfl, hfin⟩ <;>
      simp [hoffer.offersOp_iff, hoffer.not_offersReset, hfin]
  | stored _ _ hoffer hfin => simp [hoffer.offersOp_iff, hoffer.not_offersReset, hfin]
  | block _ _ u hoffer hfin _ hcompress =>
    have hu : u.uerr = s.uerr := (compress_frame hcompress).uerr
    simp [hoffer.offersOp_iff, hoffer.not_offersReset, hu, hfin]
  | finalised _ u hoffer hfin hpad =>
    have hu : u.uerr = s.uerr := (padAndCompress_frame hpad).uerr
    simp [hoffer.offersOp_iff, hoffer.not_offersReset, hu, hfin]
  | read _ _ hoffer hfin => simp [hoffer.offersOp_iff, hoffer.not_offersReset, hfin]

/-- Settles O39: among the ready steps INIT and reset clear BITCNT, and the two accepted forms of
UPDATE count an octet. -/
theorem bitcntChangesOnlyAsStated : Obligations.BitcntChangesOnlyAsStated := by
  intro s t hr h
  cases readyStep_of_step hr h with
  | quiet _ _ _ _ hoffer =>
    obtain ⟨hop, hreset⟩ := hoffer
    simp [hop, hreset]
  | reset _ hoffer => simp [hoffer, hoffer.not_offersOp]
  | init _ hoffer => simp [hoffer.offersOp_iff]
  | rejected _ _ hoffer hphase =>
    rcases hphase with ⟨rfl, hfin⟩ | ⟨rfl, hfin⟩ | ⟨rfl, hfin⟩ <;>
      simp [hoffer.offersOp_iff, hoffer.not_offersReset, hfin]
  | stored _ _ hoffer hfin => simp [hoffer.offersOp_iff, hoffer.not_offersReset, hfin]
  | block _ _ u hoffer hfin _ hcompress =>
    have hu : u.bitcnt = s.bitcnt + 8 := (compress_frame hcompress).bitcnt
    simp [hoffer.offersOp_iff, hoffer.not_offersReset, hu, hfin]
  | finalised _ u hoffer hfin hpad =>
    have hu : u.bitcnt = s.bitcnt := (padAndCompress_frame hpad).bitcnt
    simp [hoffer.offersOp_iff, hoffer.not_offersReset, hu]
  | read _ _ hoffer hfin => simp [hoffer.offersOp_iff, hoffer.not_offersReset]

/-- Settles O41: every ready step that writes H is one of the four excluded. -/
theorem chainingValueIsWrittenOnlyAsStated : Obligations.ChainingValueIsWrittenOnlyAsStated := by
  intro s t hr h hinit hreset hblock hfinal
  cases readyStep_of_step hr h with
  | quiet => rfl
  | reset _ hoffer => exact absurd hoffer hreset
  | init _ hoffer => exact absurd hoffer hinit
  | rejected => rfl
  | stored => rfl
  | block _ _ _ hoffer hfin hlen => exact absurd ⟨hoffer, hfin, congrArg BitVec.toNat hlen⟩ hblock
  | finalised _ _ hoffer hfin => exact absurd ⟨hoffer, hfin⟩ hfinal
  | read => rfl

end Sys2Proof.Machine
end

section
/-! PROOFS. What no command reads: a, b, c, d and T between commands (10 R22, R23), and UERR (60 R226). Each is said per
command, over two runs that differ in nothing else. -/

namespace Sys2Proof.Machine

/-! ### The working registers and T -/

/-- `s` with other working registers and another T. -/
def withTransient (s : State) (w : Quad) (t0 : BitVec 6) : State := { s with work := w, t := t0 }

/-- The answer is a next state that differs from `u` at most in a, b, c, d and T. -/
def AnswersUpToTransient (o : Answer) (u : State) : Prop :=
  ∃ w t0, o = .next (withTransient u w t0)

theorem exec_update_transient {x : BitVec 8} {s u : State} (w : Quad) (t0 : BitVec 6)
    (h : exec (.update x) s = .next u) :
    AnswersUpToTransient (exec (.update x) (withTransient s w t0)) u := by
  rcases exec_update_eq_next h with ⟨hfin, rfl⟩ | ⟨hfin, hlen, rfl⟩ | ⟨hfin, hlen, v, hcompress, rfl⟩
  · exact ⟨w, t0, exec_update_rejected x hfin⟩
  · exact ⟨w, t0, exec_update_stored x hfin hlen⟩
  · have hsame : compress (storeOctet x (withTransient s w t0)) = .next v :=
      (compress_transient (storeOctet x s) w t0).trans hcompress
    refine ⟨v.work, v.t, ?_⟩
    rw [exec_update_block x (s := withTransient s w t0) hfin hlen, hsame]
    rfl

theorem exec_final_transient {d : BitVec 8} {s u : State} (w : Quad) (t0 : BitVec 6)
    (h : exec (.final d) s = .next u) :
    AnswersUpToTransient (exec (.final d) (withTransient s w t0)) u := by
  rcases exec_final_eq_next h with ⟨hfin, rfl⟩ | ⟨hfin, v, hpad, rfl⟩
  · exact ⟨w, t0, exec_final_rejected d hfin⟩
  · have hsame : padAndCompress (withTransient s w t0) = .next v :=
      (padAndCompress_transient s w t0).trans hpad
    refine ⟨v.work, v.t, ?_⟩
    rw [exec_final_accepted d (s := withTransient s w t0) hfin, hsame]
    rfl

theorem exec_read_transient {g k : BitVec 4} {s u : State} (w : Quad) (t0 : BitVec 6)
    (h : exec (.read g k) s = .next u) :
    AnswersUpToTransient (exec (.read g k) (withTransient s w t0)) u := by
  rcases exec_read_eq_next h with ⟨hfin, rfl⟩ | ⟨hfin, rfl⟩
  · exact ⟨w, t0, exec_read_rejected g k hfin⟩
  · exact ⟨w, t0, exec_read_accepted g k hfin⟩

theorem exec_decodeCmd_transient {c : BitVec 10} {s u : State} (w : Quad) (t0 : BitVec 6)
    (h : exec (decodeCmd c) s = .next u) :
    AnswersUpToTransient (exec (decodeCmd c) (withTransient s w t0)) u := by
  rcases decodeCmd_cases c with ⟨d, hc⟩ | ⟨x, hc⟩ | ⟨d, hc⟩ | ⟨g, k, hc⟩ <;> rw [hc] at h ⊢
  · cases h
    exact ⟨w, t0, rfl⟩
  · exact exec_update_transient w t0 h
  · exact exec_final_transient w t0 h
  · exact exec_read_transient w t0 h

theorem step_transient {s u : State} (w : Quad) (t0 : BitVec 6) (hr : s.running = false)
    (h : step s = .next u) : AnswersUpToTransient (step (withTransient s w t0)) u := by
  rcases step_ready_cases hr h with
    ⟨hp, rfl⟩ | ⟨c, rest, hp, h⟩ | ⟨e, rest, hp, he, rfl⟩ | ⟨rest, hp, rfl⟩ | ⟨rest, hp, rfl⟩
  · exact ⟨w, t0, step_idle hr hp⟩
  · rw [step_cmd (s := withTransient s w t0) hr hp]
    exact exec_decodeCmd_transient w t0 h
  · exact ⟨_, _, step_reset hr hp he⟩
  · exact ⟨w, t0, step_transfer hr hp⟩
  · exact ⟨w, t0, step_sample hr hp⟩

/-- Settles O46: each event of a ready step leaves the transient registers unread, for Compress loads them first. -/
theorem workingRegistersAreNeverObserved : Obligations.WorkingRegistersAreNeverObserved :=
  fun _ _ w t0 hr h => ⟨rfl, step_transient w t0 hr h⟩

/-! ### UERR -/

/-- `s` with another UERR. -/
def withUerr (s : State) (b : Bool) : State := { s with uerr := b }

/-- The answer is a next state that differs from `u` at most in UERR. -/
def AnswersUpToUerr (o : Answer) (u : State) : Prop := ∃ b, o = .next (withUerr u b)

theorem exec_update_uerr {x : BitVec 8} {s u : State} (b : Bool) (h : exec (.update x) s = .next u) :
    AnswersUpToUerr (exec (.update x) (withUerr s b)) u := by
  rcases exec_update_eq_next h with ⟨hfin, rfl⟩ | ⟨hfin, hlen, rfl⟩ | ⟨hfin, hlen, v, hcompress, rfl⟩
  · exact ⟨true, exec_update_rejected x hfin⟩
  · exact ⟨b, exec_update_stored x hfin hlen⟩
  · have hsame : compress (storeOctet x (withUerr s b)) = .next (withUerr v b) :=
      compress_uerr b hcompress
    refine ⟨b, ?_⟩
    rw [exec_update_block x (s := withUerr s b) hfin hlen, hsame]
    rfl

theorem exec_final_uerr {d : BitVec 8} {s u : State} (b : Bool) (h : exec (.final d) s = .next u) :
    AnswersUpToUerr (exec (.final d) (withUerr s b)) u := by
  rcases exec_final_eq_next h with ⟨hfin, rfl⟩ | ⟨hfin, v, hpad, rfl⟩
  · exact ⟨true, exec_final_rejected d hfin⟩
  · have hsame : padAndCompress (withUerr s b) = .next (withUerr v b) := padAndCompress_uerr b hpad
    refine ⟨b, ?_⟩
    rw [exec_final_accepted d (s := withUerr s b) hfin, hsame]
    rfl

theorem exec_read_uerr {g k : BitVec 4} {s u : State} (b : Bool) (h : exec (.read g k) s = .next u) :
    AnswersUpToUerr (exec (.read g k) (withUerr s b)) u := by
  rcases exec_read_eq_next h with ⟨hfin, rfl⟩ | ⟨hfin, rfl⟩
  · exact ⟨true, exec_read_rejected g k hfin⟩
  · exact ⟨b, exec_read_accepted g k hfin⟩

/-- An instruction whose code word is a selector is the step that the tables give for it (30 R77; 41 R102). -/
theorem exec_of_encode_sel {i : Instr} {t : BitVec 6} (h : encode i = .sel t) : exec i = stepAt t := by
  cases i with
  | init => exact nomatch h
  | update => exact nomatch h
  | final => exact nomatch h
  | read => exact nomatch h
  | _ => cases h; rfl

/-- An instruction is a command or has a selector as its code word (30 R72, R77). -/
theorem command_or_encode_sel (i : Instr) :
    (∃ d, i = .init d) ∨ (∃ x, i = .update x) ∨ (∃ d, i = .final d) ∨ (∃ g k, i = .read g k) ∨
      ∃ t, encode i = .sel t := by
  cases i with
  | init d => exact .inl ⟨d, rfl⟩
  | update x => exact .inr (.inl ⟨x, rfl⟩)
  | final d => exact .inr (.inr (.inl ⟨d, rfl⟩))
  | read g k => exact .inr (.inr (.inr (.inl ⟨g, k, rfl⟩)))
  | _ => exact .inr (.inr (.inr (.inr ⟨_, rfl⟩)))

/-- Settles O47: no command's rule and no step reads UERR, and INIT and a rejection write it whatever it was. -/
theorem uerrNeverBlocksACommand : Obligations.UerrNeverBlocksACommand := by
  intro i s t b h
  rcases command_or_encode_sel i with ⟨d, rfl⟩ | ⟨x, rfl⟩ | ⟨d, rfl⟩ | ⟨g, k, rfl⟩ | ⟨t0, hi⟩
  · cases h
    exact ⟨false, rfl⟩
  · exact exec_update_uerr b h
  · exact exec_final_uerr b h
  · exact exec_read_uerr b h
  · rw [exec_of_encode_sel hi] at h ⊢
    exact ⟨b, stepAt_uerr b h⟩

end Sys2Proof.Machine
end

section
/-! PROOFS. Reset and INIT leave the same values (10 R33), INIT's response being transferred once (30 R70). -/

namespace Sys2Proof.Machine

/-- INIT and the one transfer of its response, as two steps of a ready engine (44 R201, 30 R70). -/
theorem stepTimes_init_transfer {s : State} {w : BitVec 10} {rest : List HostEvent}
    (hr : s.running = false) (hp : s.port = .cmd w :: .transfer :: rest) (hop : opField w = 0) :
    stepTimes 2 s = .next (transferRsp (respond false 0 (initialise { s with port := rest }))) := by
  have hinit : step s =
      .next (respond false 0 (initialise { s with port := .transfer :: rest })) := by
    rw [step_cmd hr hp, decodeCmd_op_zero hop, exec_init]
  have htransfer : step (respond false 0 (initialise { s with port := .transfer :: rest })) =
      .next (transferRsp (respond false 0 (initialise { s with port := rest }))) :=
    step_transfer hr rfl
  rw [stepTimes, hinit, andThen_next, stepTimes, htransfer]
  rfl

/-- Settles O7: the values at reset, after INIT, and after INIT and the transfer of its response. -/
theorem resetLeavesTheStatedValues : Obligations.ResetLeavesTheStatedValues := by
  refine ⟨rfl, rfl, rfl, rfl, rfl, rfl, rfl, rfl, readByte_nil, fun d s => ?_, fun s w rest hr hp hop => ?_⟩
  · exact ⟨_, exec_init d s, rfl, rfl, rfl, rfl, rfl, rfl, rfl, rfl⟩
  · exact ⟨_, stepTimes_init_transfer hr hp hop, rfl, rfl, rfl, rfl, rfl, rfl, rfl, rfl, rfl, rfl, rfl⟩

end Sys2Proof.Machine
end

section
/-! PROOFS. BUF (20_memory.md sections 1 and 3): an accepted UPDATE writes one cell, and every step keeps the canonical
form, in a ready engine by the cases of its step and in a running one because a step of the compressor writes no cell. -/

namespace Sys2Proof.Machine

/-- Settles O10: below LEN = 63 the one write to BUF is the write of the octet at LEN. -/
theorem updateStoresOneOctet : Obligations.UpdateStoresOneOctet := by
  intro x s t hfin hlen h
  have hincomplete : s.len ≠ 63 := by bv_omega
  rw [exec_update_stored x hfin hincomplete] at h
  cases h
  exact ⟨readByte_writeByte_same s.buf _ x, fun _ ha => readByte_writeByte_other s.buf x ha⟩

/-! ### The step of a running engine -/

/-- The step that T selects has that value of T as its code word (30 R77). -/
theorem encode_decodeSel (t : BitVec 6) : encode (decodeSel t) = .sel t := by
  revert t
  decide

theorem exec_decodeSel (t : BitVec 6) : exec (decodeSel t) = stepAt t :=
  exec_of_encode_sel (encode_decodeSel t)

/-- A running engine with a reset at its ports (70 R241). -/
theorem step_running_reset {s : State} {e : HostEvent} {rest : List HostEvent} (hr : s.running = true)
    (hp : s.port = e :: rest) (he : e.isReset = true) :
    step s = .next (resetBy { s with port := rest }) := by
  simp [step, fetch, nextRunning, hr, hp, he]

/-- What a step of a running engine can be: a reset, or else STEP T (70 R241, 30 R77). -/
theorem step_running_cases {s t : State} (hr : s.running = true) (h : step s = .next t) :
    (OffersReset s ∧ ∃ rest, t = resetBy { s with port := rest }) ∨
    (¬ OffersReset s ∧ stepAt s.t s = .next t) := by
  by_cases hoffer : OffersReset s
  · have ⟨e, rest, hp, he⟩ := hoffer
    rw [step_running_reset hr hp he] at h
    cases h
    exact .inl ⟨hoffer, rest, rfl⟩
  · have hwaits : ∀ e rest, s.port = e :: rest → e.isReset = false := fun e rest hp =>
      Bool.eq_false_iff.2 fun he => hoffer ⟨e, rest, hp, he⟩
    rw [step_running hr hwaits, exec_decodeSel] at h
    exact .inr ⟨hoffer, h⟩

/-! ### The canonical form -/

theorem readyStep_keeps_wf {s t : State} (hwf : Memory.wf s.buf = true) (h : ReadyStep s t) :
    Memory.wf t.buf = true := by
  cases h with
  | quiet | rejected | read => exact hwf
  | reset | init | block | finalised => exact Memory.wf_nil
  | stored rest x => exact Memory.wf_writeByte x hwf s.len.isLt

/-- Settles O35: a ready step writes the cell at LEN or no cell or drops them all, and STEP T writes no cell. -/
theorem bufStaysCanonical : Obligations.BufStaysCanonical := by
  intro s t hwf h
  cases hr : s.running with
  | false => exact readyStep_keeps_wf hwf (readyStep_of_step hr h)
  | true =>
    rcases step_running_cases hr h with ⟨-, rest, rfl⟩ | ⟨-, hstep⟩
    · exact Memory.wf_nil
    · rwa [(stepAt_frame hstep).buf]

end Sys2Proof.Machine
end

section
/-! PROOFS. Between commands every step answers: with pending octets in the cells below LEN, each Compress that a
command runs finds a full block (20 R55). -/

namespace Sys2Proof.Machine

theorem exec_update_answers (x : BitVec 8) {s : State} {p : List Byte} (hbuf : s.buf = cellsFrom 0 p)
    (hp : p.length = s.len.toNat) : ∃ t, exec (.update x) s = .next t := by
  cases hfin : s.fin with
  | true => exact ⟨_, exec_update_rejected x hfin⟩
  | false =>
    by_cases hlen : s.len = 63
    · have hblock : (p ++ [x]).length = 64 := by simp [hp, hlen]
      obtain ⟨u, hu, -⟩ := compress_full hblock (storeOctet_cells hbuf hp x)
      rw [exec_update_block x hfin hlen, hu]
      exact ⟨_, rfl⟩
    · exact ⟨_, exec_update_stored x hfin hlen⟩

theorem exec_final_answers (d : BitVec 8) {s : State} {p : List Byte} (hbuf : s.buf = cellsFrom 0 p)
    (hp : p.length = s.len.toNat) : ∃ t, exec (.final d) s = .next t := by
  cases hfin : s.fin with
  | true => exact ⟨_, exec_final_rejected d hfin⟩
  | false =>
    obtain ⟨u, hu, -⟩ := padAndCompress_eq hbuf hp
    rw [exec_final_accepted d hfin, hu]
    exact ⟨_, rfl⟩

theorem exec_read_answers (g k : BitVec 4) (s : State) : ∃ t, exec (.read g k) s = .next t := by
  cases hfin : s.fin with
  | true => exact ⟨_, exec_read_accepted g k hfin⟩
  | false => exact ⟨_, exec_read_rejected g k hfin⟩

/-- Every command word is answered (30 R72, 70 R247). -/
theorem exec_decodeCmd_answers (w : BitVec 10) {s : State} {p : List Byte} (hbuf : s.buf = cellsFrom 0 p)
    (hp : p.length = s.len.toNat) : ∃ t, exec (decodeCmd w) s = .next t := by
  rcases decodeCmd_cases w with ⟨d, hw⟩ | ⟨x, hw⟩ | ⟨d, hw⟩ | ⟨g, k, hw⟩ <;> rw [hw]
  · exact ⟨_, exec_init d s⟩
  · exact exec_update_answers x hbuf hp
  · exact exec_final_answers d hbuf hp
  · exact exec_read_answers g k s

/-- Settles O34: with the pending octets that the invariant gives every command answers, and no other event can stop. -/
theorem noStepStopsBetweenCommands : Obligations.NoStepStopsBetweenCommands := by
  intro s hinv
  have hr : s.running = false := hinv.1
  obtain ⟨p, hbuf, hp⟩ := hinv.pending
  rcases hport : s.port with _ | ⟨e, rest⟩
  · exact ⟨s, step_idle hr hport⟩
  · cases e with
    | cmd w =>
      rw [step_cmd hr hport]
      exact exec_decodeCmd_answers w hbuf hp
    | reset | resetDuring => exact ⟨_, step_reset hr hport rfl⟩
    | transfer => exact ⟨_, step_transfer hr hport⟩
    | sample => exact ⟨_, step_sample hr hport⟩

end Sys2Proof.Machine
end

section
/-! PROOFS. The little-endian views of 20_memory.md section 2: message words (R51), the length suffix (R52), and the
Digest as octets and as the vector `digest_o` (R53, 30 R83). -/

namespace Sys2Proof.Machine

/-! ### Message words -/

/-- LE32 of four octets in a row of a vector is the word they form. -/
theorem le32_extractLsb' {w : Nat} (x : BitVec w) (i : Nat) :
    le32 (x.extractLsb' i 8) (x.extractLsb' (i + 8) 8) (x.extractLsb' (i + 16) 8) (x.extractLsb' (i + 24) 8) =
      x.extractLsb' i 32 := by
  rw [le32, BitVec.extractLsb'_append_extractLsb'_eq_extractLsb' (show i + 24 = i + 16 + 8 from rfl),
    BitVec.extractLsb'_append_extractLsb'_eq_extractLsb' (show i + 16 = i + 8 + 8 from rfl),
    BitVec.extractLsb'_append_extractLsb'_eq_extractLsb' rfl]

/-- A message word whose octets all lie in the last part of the block. -/
theorem blockWord_append_right {p bs : List Byte} {j : BitVec 4} (h : p.length ≤ 4 * j.toNat) :
    blockWord (p ++ bs) j =
      le32 (bs.getD (4 * j.toNat - p.length) 0) (bs.getD (4 * j.toNat + 1 - p.length) 0)
        (bs.getD (4 * j.toNat + 2 - p.length) 0) (bs.getD (4 * j.toNat + 3 - p.length) 0) := by
  rw [blockWord, List.getD_append_right _ _ _ _ h, List.getD_append_right _ _ _ _ (by omega),
    List.getD_append_right _ _ _ _ (by omega), List.getD_append_right _ _ _ _ (by omega)]

/-- The two message words of the length suffix (20 R52). -/
theorem blockWord_suffix {p : List Byte} (hp : p.length = 56) (n : BitVec 64) :
    blockWord (p ++ bytesLE64 n) 14 = n.extractLsb' 0 32 ∧
    blockWord (p ++ bytesLE64 n) 15 = n.extractLsb' 32 32 := by
  rw [blockWord_append_right (by simp [hp]), blockWord_append_right (by simp [hp]), hp]
  exact ⟨le32_extractLsb' n 0, le32_extractLsb' n 32⟩

/-- Settles O31: a full block's word is LE32 of its octets, and the suffix's octets are those of BITCNT. -/
theorem messageWordsAreLittleEndian : Obligations.MessageWordsAreLittleEndian := by
  refine ⟨fun blk j hblk => ⟨blockWord blk j, readWord_cellsFrom hblk j, le32_toNat _ _ _ _⟩, fun p n hp => ?_⟩
  have hblock : (p ++ bytesLE64 n).length = 64 := by simp [hp]
  obtain ⟨hlow, hhigh⟩ := blockWord_suffix hp n
  rw [readWord_cellsFrom hblock, readWord_cellsFrom hblock, hlow, hhigh]
  exact ⟨rfl, rfl⟩

/-! ### The Digest -/

theorem bitVec_two_cases (i : BitVec 2) : i = 0 ∨ i = 1 ∨ i = 2 ∨ i = 3 := by
  revert i
  decide

theorem quadGet_eq_getD (q : Quad) (i : BitVec 2) : quadGet q i = [q.a, q.b, q.c, q.d].getD i.toNat 0 := by
  rcases bitVec_two_cases i with rfl | rfl | rfl | rfl <;> rfl

/-- The word that holds octet `k` (20 R53). -/
theorem toNat_wordIndex (k : BitVec 4) : (k.extractLsb' 2 2).toNat = k.toNat / 4 := by
  have := k.isLt
  rw [BitVec.extractLsb'_toNat, Nat.shiftRight_eq_div_pow]
  omega

/-- The place of octet `k` in its word (20 R53). -/
theorem toNat_octetIndex (k : BitVec 4) : (k.extractLsb' 0 2).toNat = k.toNat % 4 :=
  BitVec.extractLsb'_toNat ..

theorem digestOctet_toNat (h : Quad) (k : BitVec 4) : (digestOctet h k).toNat =
    ([h.a, h.b, h.c, h.d].getD (k.toNat / 4) 0).toNat / 2 ^ (8 * (k.toNat % 4)) % 256 := by
  rw [digestOctet, quadGet_eq_getD, toNat_wordIndex, toNat_octetIndex, BitVec.extractLsb'_toNat,
    Nat.shiftRight_eq_div_pow]

theorem digestBytes_eq_map (h : Quad) :
    digestBytes h = (List.range 16).map fun i => digestOctet h (BitVec.ofNat 4 i) := rfl

theorem digestBytes_getElem? (h : Quad) (k : BitVec 4) : (digestBytes h)[k.toNat]? = some (digestOctet h k) := by
  rw [digestBytes_eq_map, List.getElem?_map, List.getElem?_range k.isLt, Option.map_some, BitVec.ofNat_toNat,
    BitVec.setWidth_eq]

/-- A word that stands above the lowest word of a vector. -/
theorem extractLsb'_append_above {v : Nat} (x : BitVec v) (y : Word) (i : Nat) :
    (x ++ y).extractLsb' (i + 32) 32 = x.extractLsb' i 32 := by
  rw [BitVec.extractLsb'_append_eq_of_le (Nat.le_add_left 32 i), Nat.add_sub_cancel]

/-- Word `i` of the vector is word `i` of the Digest (30 R83). -/
theorem digestVector_word (h : Quad) (i : BitVec 2) :
    (digestVector h).extractLsb' (32 * i.toNat) 32 = quadGet h i := by
  have ha : (digestVector h).extractLsb' 0 32 = h.a := BitVec.extractLsb'_append_eq_right
  have hb : (digestVector h).extractLsb' 32 32 = h.b :=
    (extractLsb'_append_above _ h.a 0).trans BitVec.extractLsb'_append_eq_right
  have hc : (digestVector h).extractLsb' 64 32 = h.c :=
    (extractLsb'_append_above _ h.a 32).trans <|
      (extractLsb'_append_above _ h.b 0).trans BitVec.extractLsb'_append_eq_right
  have hd : (digestVector h).extractLsb' 96 32 = h.d :=
    (extractLsb'_append_above _ h.a 64).trans <|
      (extractLsb'_append_above _ h.b 32).trans BitVec.extractLsb'_append_eq_left
  rcases bitVec_two_cases i with rfl | rfl | rfl | rfl
  exacts [ha, hb, hc, hd]

/-- A field of a field is a field of the whole. -/
theorem extractLsb'_extractLsb' {w : Nat} (x : BitVec w) {start len i n : Nat} (h : i + n ≤ len) :
    (x.extractLsb' start len).extractLsb' i n = x.extractLsb' (start + i) n := by
  ext j hj
  have hin : i + j < len := by omega
  simp [hin, Nat.add_assoc]

/-- `digest_o[8k+7 : 8k]` = DG(k) (30 R83): octet `k` of the vector lies in its word `k div 4`. -/
theorem digestVector_octet (h : Quad) (k : BitVec 4) :
    (digestVector h).extractLsb' (8 * k.toNat) 8 = digestOctet h k := by
  have hplace : 8 * k.toNat = 32 * (k.toNat / 4) + 8 * (k.toNat % 4) := by omega
  have hinside : 8 * (k.toNat % 4) + 8 ≤ 32 := by omega
  rw [digestOctet, ← digestVector_word, toNat_wordIndex, toNat_octetIndex, extractLsb'_extractLsb' _ hinside,
    hplace]

theorem digestO_finalized {s : State} (hfin : s.fin = true) : digestO s = digestVector s.h := if_pos hfin

/-- Settles O14: the octet sequence, the octet's digit of its word, and the words and octets of the vector. -/
theorem digestOctetsAreLittleEndian : Obligations.DigestOctetsAreLittleEndian := by
  intro h k
  refine ⟨digestBytes_getElem? h k, digestOctet_toNat h k, rfl, rfl, rfl, rfl, ?_⟩
  rintro s hfin rfl
  rw [digestO_finalized hfin]
  exact ⟨digestVector_octet s.h k, digestVector_word s.h 0, digestVector_word s.h 1, digestVector_word s.h 2,
    digestVector_word s.h 3⟩

end Sys2Proof.Machine
end

section
/-! PROOFS. Decoding and encoding (30_encoding.md R71 to R73, R77 to R79): the fields of a command word and the word of
its fields, the round trip over them, and the octets of a code word. -/

namespace Sys2Proof.Machine

/-! ### The fields of a command word -/

@[simp] theorem opField_cmdWord (op : BitVec 2) (data : BitVec 8) : opField (cmdWord op data) = op :=
  BitVec.extractLsb'_append_eq_left

@[simp] theorem dataField_cmdWord (op : BitVec 2) (data : BitVec 8) : dataField (cmdWord op data) = data :=
  BitVec.extractLsb'_append_eq_right

/-- No bit of a command word stands outside `op` and `data` (30 R71). -/
theorem cmdWord_opField_dataField (w : BitVec 10) : cmdWord (opField w) (dataField w) = w := by
  have happend : opField w ++ dataField w = w.extractLsb' 0 10 :=
    BitVec.extractLsb'_append_extractLsb'_eq_extractLsb' rfl
  rw [cmdWord, happend, BitVec.extractLsb'_eq_self]

theorem ignField_eq_extractLsb'_dataField (w : BitVec 10) : ignField w = (dataField w).extractLsb' 4 4 := by
  rw [ignField, dataField, extractLsb'_extractLsb' w (by decide)]

theorem indexField_eq_extractLsb'_dataField (w : BitVec 10) : indexField w = (dataField w).extractLsb' 0 4 := by
  rw [indexField, dataField, extractLsb'_extractLsb' w (by decide)]

@[simp] theorem ignField_cmdWord (op : BitVec 2) (ign k : BitVec 4) : ignField (cmdWord op (ign ++ k)) = ign := by
  rw [ignField_eq_extractLsb'_dataField, dataField_cmdWord]
  exact BitVec.extractLsb'_append_eq_left

@[simp] theorem indexField_cmdWord (op : BitVec 2) (ign k : BitVec 4) : indexField (cmdWord op (ign ++ k)) = k := by
  rw [indexField_eq_extractLsb'_dataField, dataField_cmdWord]
  exact BitVec.extractLsb'_append_eq_right

/-- READ's two fields make up `data` (30 R73). -/
theorem ignField_append_indexField (w : BitVec 10) : ignField w ++ indexField w = dataField w :=
  BitVec.extractLsb'_append_extractLsb'_eq_extractLsb' rfl

/-! ### The round trip -/

theorem decode_encode (i : Instr) : decode (encode i) = i := by
  cases i with
  | init d => simp [encode, decode, decodeCmd_op_zero]
  | update x => simp [encode, decode, decodeCmd_op_one]
  | final d => simp [encode, decode, decodeCmd_op_two]
  | read g k => simp [encode, decode, decodeCmd_op_three]
  | _ => rfl

theorem encode_decodeCmd (w : BitVec 10) : encode (decodeCmd w) = .cmd w := by
  have hword := cmdWord_opField_dataField w
  rcases opField_cases w with hop | hop | hop | hop <;> rw [hop] at hword
  · rw [decodeCmd_op_zero hop, encode, hword]
  · rw [decodeCmd_op_one hop, encode, hword]
  · rw [decodeCmd_op_two hop, encode, hword]
  · rw [decodeCmd_op_three hop, encode, ignField_append_indexField, hword]

theorem encode_decode (c : CodeWord) : encode (decode c) = c := by
  cases c with
  | cmd w => exact encode_decodeCmd w
  | sel t => exact encode_decodeSel t

/-- Settles O2: a command word is the word of its fields, and the table of steps holds STEP T at place T. -/
theorem decodeAndEncodeAgree : Obligations.DecodeAndEncodeAgree := ⟨decode_encode, encode_decode⟩

/-! ### Code words as octets -/

/-- The octets of a command word, put together again. -/
theorem setWidth_octets_cmd (w : BitVec 10) :
    (((w.extractLsb' 8 2).setWidth 8 : Byte) ++ (w.extractLsb' 0 8 : Byte)).setWidth 10 = w := by
  have hlt := w.isLt
  apply BitVec.eq_of_toNat_eq
  rw [BitVec.toNat_setWidth, toNat_append_octet, BitVec.toNat_setWidth, BitVec.extractLsb'_toNat,
    BitVec.extractLsb'_toNat, Nat.shiftRight_zero, Nat.shiftRight_eq_div_pow]
  omega

theorem codeWordOfBytes_bytesOfCodeWord (c : CodeWord) : codeWordOfBytes (bytesOfCodeWord c) = .ok c := by
  cases c with
  | sel t =>
    have hfits : (t.setWidth 8).toNat < 64 := by
      rw [BitVec.toNat_setWidth]; omega
    have hback : (t.setWidth 8).setWidth 6 = t := by bv_omega
    rw [bytesOfCodeWord, codeWordOfBytes, if_pos hfits, hback]
  | cmd w =>
    have hfits : ((w.extractLsb' 8 2).setWidth 8).toNat < 4 := by
      rw [BitVec.toNat_setWidth]; omega
    rw [bytesOfCodeWord, codeWordOfBytes, if_pos hfits, setWidth_octets_cmd]

/-- An octet below 64 is the octet of a selector. -/
theorem setWidth_setWidth_of_fits {b : Byte} (h : b.toNat < 64) : (b.setWidth 6).setWidth 8 = b := by
  bv_omega

/-- The word of two octets, the second of them below 4, has these octets. -/
theorem octets_of_setWidth_append {b0 b1 : Byte} (h : b1.toNat < 4) :
    ((b1 ++ b0).setWidth 10).extractLsb' 0 8 = b0 ∧
    (((b1 ++ b0).setWidth 10).extractLsb' 8 2).setWidth 8 = b1 := by
  have hword : ((b1 ++ b0).setWidth 10).toNat = b0.toNat + 2 ^ 8 * b1.toNat := by
    rw [BitVec.toNat_setWidth, toNat_append_octet]
    omega
  constructor <;> apply BitVec.eq_of_toNat_eq
  · rw [BitVec.extractLsb'_toNat, hword, Nat.shiftRight_zero]
    omega
  · rw [BitVec.toNat_setWidth, BitVec.extractLsb'_toNat, hword, Nat.shiftRight_eq_div_pow]
    omega

theorem eq_bytesOfCodeWord {bs : List Byte} {c : CodeWord} (h : codeWordOfBytes bs = .ok c) :
    bs = bytesOfCodeWord c := by
  unfold codeWordOfBytes at h
  split at h
  · split at h
    · rename_i hfits
      cases h
      rw [bytesOfCodeWord, setWidth_setWidth_of_fits hfits]
    · exact nomatch h
  · split at h
    · rename_i hfits
      obtain ⟨hlow, hhigh⟩ := octets_of_setWidth_append hfits
      cases h
      rw [bytesOfCodeWord, hlow, hhigh]
    · exact nomatch h
  · exact nomatch h

theorem codeWordOfBytes_eq_ok_iff (bs : List Byte) (c : CodeWord) :
    codeWordOfBytes bs = .ok c ↔ bs = bytesOfCodeWord c :=
  ⟨eq_bytesOfCodeWord, fun h => h ▸ codeWordOfBytes_bytesOfCodeWord c⟩

theorem decodeBytes_eq_ok_iff (bs : List Byte) (i : Instr) :
    decodeBytes bs = .ok i ↔ ∃ c, codeWordOfBytes bs = .ok c ∧ decode c = i := by
  unfold decodeBytes
  cases codeWordOfBytes bs <;> simp

/-- Settles O4: octets hold at most one code word, and a code word is the one of its instruction. -/
theorem octetsDecodeExactlyWhenTheyAreACodeWord : Obligations.OctetsDecodeExactlyWhenTheyAreACodeWord := by
  intro bs i
  simp only [decodeBytes_eq_ok_iff, codeWordOfBytes_eq_ok_iff]
  constructor
  · rintro ⟨c, rfl, rfl⟩
    rw [encode_decode]
  · rintro rfl
    exact ⟨encode i, rfl, decode_encode i⟩

/-- Settles O3: the words of the tables, bit by bit, each decoded by evaluation. -/
theorem writtenOutWordsDecode : Obligations.WrittenOutWordsDecode := by
  unfold Obligations.WrittenOutWordsDecode
  decide

end Sys2Proof.Machine
end

section
/-! PROOFS. The response a command gives (30_encoding.md R75, R76): one word, shown on the response port and appended to
the record, with rdata 0x00 but for an accepted READ. -/

namespace Sys2Proof.Machine

/-- The command answered `t` with the one response word of `err` and `rdata` (30 R75, R76). -/
def Responded (s t : State) (err : Bool) (rdata : Byte) : Prop :=
  t.rsp = some (responseWord err rdata) ∧ t.sent = s.sent ++ [responseWord err rdata]

theorem responded_respond {s u : State} (hsent : u.sent = s.sent) (err : Bool) (rdata : Byte) :
    Responded s (respond err rdata u) err rdata :=
  ⟨rfl, by rw [respond_sent, hsent]⟩

theorem responded_raiseUsageError (s : State) : Responded s (raiseUsageError s) true 0 :=
  responded_respond rfl true 0

theorem exec_init_responded {d : BitVec 8} {s t : State} (h : exec (.init d) s = .next t) : Responded s t false 0 := by
  rw [exec_init] at h
  cases h
  exact responded_respond rfl false 0

theorem exec_update_responded {x : BitVec 8} {s t : State} (h : exec (.update x) s = .next t) :
    Responded s t s.fin 0 := by
  rcases exec_update_eq_next h with ⟨hfin, rfl⟩ | ⟨hfin, -, rfl⟩ | ⟨hfin, -, u, hcompress, rfl⟩ <;> rw [hfin]
  · exact responded_raiseUsageError s
  · exact responded_respond rfl false 0
  · exact responded_respond (u := emptyBuffer u) (compress_frame hcompress).sent false 0

theorem exec_final_responded {d : BitVec 8} {s t : State} (h : exec (.final d) s = .next t) :
    Responded s t s.fin 0 := by
  rcases exec_final_eq_next h with ⟨hfin, rfl⟩ | ⟨hfin, u, hpad, rfl⟩ <;> rw [hfin]
  · exact responded_raiseUsageError s
  · exact responded_respond (u := finalise u) (padAndCompress_frame hpad).sent false 0

theorem exec_read_responded {g k : BitVec 4} {s t : State} (h : exec (.read g k) s = .next t) :
    Responded s t (!s.fin) (if s.fin then digestOctet s.h k else 0) := by
  rcases exec_read_eq_next h with ⟨hfin, rfl⟩ | ⟨hfin, rfl⟩ <;> rw [hfin]
  · exact responded_raiseUsageError s
  · exact responded_respond rfl false _

/-- The four commands of the command port (30 R72). -/
theorem command_cases {i : Instr} (hi : i.isCommand = true) :
    (∃ d, i = .init d) ∨ (∃ x, i = .update x) ∨ (∃ d, i = .final d) ∨ ∃ g k, i = .read g k := by
  cases i with
  | init d => exact .inl ⟨d, rfl⟩
  | update x => exact .inr (.inl ⟨x, rfl⟩)
  | final d => exact .inr (.inr (.inl ⟨d, rfl⟩))
  | read g k => exact .inr (.inr (.inr ⟨g, k, rfl⟩))
  | _ => exact nomatch hi

/-- What is no command has a selector as its code word (30 R77). -/
theorem encode_sel_of_not_command {i : Instr} (hi : i.isCommand = false) : ∃ t, encode i = .sel t := by
  cases i with
  | init | update | final | read => exact nomatch hi
  | _ => exact ⟨_, rfl⟩

/-- What a command that answers has answered with (30 R75, R76). -/
theorem exec_command_responded {i : Instr} {s t : State} (hi : i.isCommand = true) (h : exec i s = .next t) :
    ∃ err rdata, Responded s t err rdata ∧ (rdata ≠ 0 → (∃ g k, i = .read g k) ∧ s.fin = true) := by
  rcases command_cases hi with ⟨d, rfl⟩ | ⟨x, rfl⟩ | ⟨d, rfl⟩ | ⟨g, k, rfl⟩
  · exact ⟨_, _, exec_init_responded h, fun hne => absurd rfl hne⟩
  · exact ⟨_, _, exec_update_responded h, fun hne => absurd rfl hne⟩
  · exact ⟨_, _, exec_final_responded h, fun hne => absurd rfl hne⟩
  · refine ⟨_, _, exec_read_responded h, fun hne => ⟨⟨g, k, rfl⟩, ?_⟩⟩
    by_contra hfin
    exact hne (if_neg hfin)

theorem rdata_responseWord (err : Bool) (rdata : Byte) : (responseWord err rdata).extractLsb' 0 8 = rdata :=
  BitVec.extractLsb'_append_eq_right

/-- Settles O17: each command's answer ends in one response, and no step of the compressor writes the response port. -/
theorem everyCommandAnswersOnce : Obligations.EveryCommandAnswersOnce := by
  intro i s t h
  refine ⟨fun hi => ?_, fun hi => ?_⟩
  · obtain ⟨err, rdata, ⟨hrsp, hsent⟩, hread⟩ := exec_command_responded hi h
    exact ⟨_, hrsp, hsent, by rwa [rdata_responseWord]⟩
  · obtain ⟨t0, hsel⟩ := encode_sel_of_not_command hi
    rw [exec_of_encode_sel hsel] at h
    exact ⟨(stepAt_frame h).rsp, (stepAt_frame h).sent⟩

end Sys2Proof.Machine
end

section
/-! PROOFS. The hash of a message (44_digest_engine.md R207): the padded message behind its complete blocks, FINAL of an
engine that holds the message, and the command sequence HASH (30_encoding.md R82). -/

namespace Sys2Proof.Machine

/-! ### The padded message -/

/-- PAD of a message (42 R181, 44 R207). -/
def messagePad (m : List Byte) : List Byte :=
  padBytes (BitVec.ofNat 6 m.length) (BitVec.ofNat 64 (8 * m.length))

/-- What FINAL compresses: the pending octets and PAD, one block or two (42 R182). -/
def lastOctets (m : List Byte) : List Byte := pendingOctets m ++ messagePad m

theorem lastOctets_length (m : List Byte) :
    (lastOctets m).length = 64 * if m.length % 64 ≤ 55 then 1 else 2 := by
  have hlen : (BitVec.ofNat 6 m.length).toNat = m.length % 64 := BitVec.toNat_ofNat ..
  rw [lastOctets, List.length_append, pendingOctets_length, ← hlen]
  split
  · rename_i hone
    exact padBytes_length_one hone _
  · rename_i htwo
    exact padBytes_length_two (Nat.lt_of_not_le htwo) _

theorem padded_length (m : List Byte) :
    (padded m).length = 64 * (m.length / 64) + (lastOctets m).length := by
  have hpadded : (padded m).length = m.length + (messagePad m).length := List.length_append
  rw [hpadded, lastOctets, List.length_append, pendingOctets_length]
  omega

/-- Behind the complete blocks of the message stand the octets that FINAL compresses. -/
theorem padded_drop (m : List Byte) : (padded m).drop (64 * (m.length / 64)) = lastOctets m :=
  List.drop_append_of_le_length (Nat.mul_div_le m.length 64)

/-- `n` blocks and `k` blocks more. -/
theorem chain_add (h : Quad) (n k : Nat) (bs : List Byte) :
    chain h (n + k) bs = chain (chain h n bs) k (bs.drop (64 * n)) := by
  induction n generalizing h bs with
  | zero => rw [Nat.zero_add]; rfl
  | succ n ih => rw [Nat.succ_add, chain, ih, chain, List.drop_drop, Nat.mul_succ, Nat.add_comm 64]

/-- The last chaining value: FINAL's one block or two behind the complete blocks of the message (44 R207, 42 R182). -/
theorem messageState_eq_chain (m : List Byte) :
    messageState m =
      chain (chain iv (m.length / 64) m) (if m.length % 64 ≤ 55 then 1 else 2) (lastOctets m) := by
  have hblocks : (padded m).length / 64 = m.length / 64 + if m.length % 64 ≤ 55 then 1 else 2 := by
    rw [padded_length, lastOctets_length, ← Nat.mul_add, Nat.mul_div_cancel_left _ (by decide)]
  rw [messageState, hblocks, chain_add, padded_drop, padded, chain_append _ _ (Nat.mul_div_le m.length 64)]

/-- The same by the branches of the padder (42 R184). -/
theorem messageState_eq (m : List Byte) :
    messageState m =
      if m.length % 64 ≤ 55 then compressBlock (chain iv (m.length / 64) m) (lastOctets m)
      else compressBlock (compressBlock (chain iv (m.length / 64) m) ((lastOctets m).take 64))
        ((lastOctets m).drop 64) := by
  have hlength := lastOctets_length m
  rw [messageState_eq_chain]
  split
  · rename_i hone
    rw [if_pos hone] at hlength
    rw [chain, chain, List.take_of_length_le hlength.le]
  · rename_i htwo
    rw [if_neg htwo] at hlength
    have hsecond : ((lastOctets m).drop 64).length ≤ 64 := by rw [List.length_drop, hlength]
    rw [chain, chain, chain, List.take_of_length_le hsecond]

/-! ### FINAL -/

/-- FINAL of an engine that holds `m` leaves the last chaining value of `m` in H (44 R202, R207). -/
theorem Holds.final {m : List Byte} {s : State} (h : Holds m s) (d : BitVec 8) :
    ∃ t, exec (.final d) s = .next t ∧ t.fin = true ∧ t.len = 0 ∧ t.h = messageState m ∧
      t.bitcnt = s.bitcnt ∧ t.uerr = s.uerr := by
  have hlen := h.len_toNat
  obtain ⟨-, hfin, hh, hbuf, hl, hcount⟩ := h
  obtain ⟨u, hu, huh, -, hframe⟩ := padAndCompress_eq hbuf hlen.symm
  have hlast : m.drop (wholeOctets m) ++ padBytes s.len s.bitcnt = lastOctets m := by rw [hl, hcount]; rfl
  rw [hlast, hlen, pendingOctets_length, hh, ← messageState_eq] at huh
  rw [exec_final_accepted d hfin, hu]
  exact ⟨_, rfl, rfl, rfl, huh, hframe.bitcnt, hframe.uerr⟩

/-! ### HASH -/

theorem execAll_append {is js : List Instr} {s t : State} (h : execAll is s = .next t) :
    execAll (is ++ js) s = execAll js t := by
  induction is generalizing s with
  | nil => cases h; rfl
  | cons i is ih =>
    obtain ⟨u, hu, h⟩ := andThen_eq_next h
    rw [List.cons_append, execAll, hu, andThen_next, ih h]

theorem execAll_cons {i : Instr} {is : List Instr} {s t : State} (h : exec i s = .next t) :
    execAll (i :: is) s = execAll is t := by
  rw [execAll, h, andThen_next]

/-- UPDATE in an Open engine leaves UERR alone (43 R190, 10 R27). -/
theorem exec_update_uerr_of_open {x : BitVec 8} {s t : State} (hfin : s.fin = false)
    (h : exec (.update x) s = .next t) : t.uerr = s.uerr := by
  rcases exec_update_eq_next h with ⟨hrejected, -⟩ | ⟨-, -, rfl⟩ | ⟨-, -, u, hcompress, rfl⟩
  · exact absurd (hfin.symm.trans hrejected) Bool.false_ne_true
  · rfl
  · exact (compress_frame hcompress).uerr

/-- The UPDATEs of a message are each accepted, and the engine holds its octets behind those it held (30 R82). -/
theorem execAll_updateCommands {m : List Byte} {s : State} (h : Holds m s) (xs : List Byte) :
    ∃ t, execAll (updateCommands xs) s = .next t ∧ Holds (m ++ xs) t ∧ t.uerr = s.uerr ∧
      t.sent = s.sent ++ List.replicate xs.length 0x000 := by
  induction xs generalizing m s with
  | nil => exact ⟨s, rfl, by rwa [List.append_nil], rfl, (List.append_nil _).symm⟩
  | cons x xs ih =>
    have hfin : s.fin = false := h.2.1
    obtain ⟨u, hu, hholds⟩ := h.update x
    have huerr := exec_update_uerr_of_open hfin hu
    have ⟨_, hsent⟩ := exec_update_responded hu
    obtain ⟨t, ht, hall, hterr, htsent⟩ := ih hholds
    refine ⟨t, (execAll_cons hu).trans ht, ?_, hterr.trans huerr, ?_⟩
    · rwa [List.append_assoc] at hall
    · rw [htsent, hsent, hfin, List.append_assoc]
      rfl

/-- READs in a Finalized engine are each accepted and answer the octets of the Digest (30 R82, 44 R204). -/
theorem execAll_reads {s : State} (hfin : s.fin = true) (ks : List (BitVec 4)) :
    ∃ t, execAll (ks.map (.read 0)) s = .next t ∧ t.fin = true ∧ t.uerr = s.uerr ∧ t.h = s.h ∧
      t.sent = s.sent ++ ks.map fun k => responseWord false (digestOctet s.h k) := by
  induction ks generalizing s with
  | nil => exact ⟨s, rfl, hfin, rfl, rfl, (List.append_nil _).symm⟩
  | cons k ks ih =>
    obtain ⟨t, ht, htfin, hterr, hth, htsent⟩ := ih (s := respond false (digestOctet s.h k) s) hfin
    refine ⟨t, (execAll_cons (exec_read_accepted 0 k hfin)).trans ht, htfin, hterr, hth, ?_⟩
    rw [htsent, respond_sent, List.append_assoc]
    rfl

/-- A response without error is its rdata (30 R75). -/
theorem responseWord_ok (b : Byte) : responseWord false b = b.setWidth 9 := by
  rw [BitVec.setWidth_eq_append (by decide)]
  rfl

/-- DIGEST in a Finalized engine answers the sixteen octets of the Digest in order (30 R82). -/
theorem execAll_digestCommands {s : State} (hfin : s.fin = true) :
    ∃ t, execAll digestCommands s = .next t ∧ t.fin = true ∧ t.uerr = s.uerr ∧ t.h = s.h ∧
      t.sent = s.sent ++ (digestBytes s.h).map fun b => b.setWidth 9 := by
  have hreads : digestCommands = ((List.range 16).map (BitVec.ofNat 4)).map (.read 0) := List.map_map.symm
  obtain ⟨t, ht, htfin, hterr, hth, htsent⟩ := execAll_reads hfin ((List.range 16).map (BitVec.ofNat 4))
  refine ⟨t, hreads ▸ ht, htfin, hterr, hth, ?_⟩
  rw [htsent, digestBytes_eq_map, List.map_map, List.map_map]
  simp only [Function.comp_def, responseWord_ok]

/-- Settles O44: INIT makes the engine hold the empty message, the UPDATEs make it hold `m`, FINAL leaves the last
chaining value of `m` in H, and the READs answer its octets. -/
theorem hashCommandsReturnTheDigest : Obligations.HashCommandsReturnTheDigest := by
  intro m s hr
  refine ⟨rfl, ?_⟩
  have hempty : Holds [] (respond false 0 (initialise s)) := holds_initialise hr
  obtain ⟨u, hu, hholds, huerr, husent⟩ := execAll_updateCommands hempty m
  rw [List.nil_append] at hholds
  obtain ⟨v, hv, hvfin, -, hvh, -, hverr⟩ := hholds.final 0
  have ⟨_, hvsent⟩ := exec_final_responded hv
  obtain ⟨t, ht, htfin, hterr, hth, htsent⟩ := execAll_digestCommands hvfin
  have hufin : u.fin = false := hholds.2.1
  have hquiet : v.sent = s.sent ++ List.replicate (m.length + 2) 0x000 := by
    rw [hvsent, husent, respond_sent, hufin, List.replicate_succ', List.replicate_succ, List.append_assoc,
      List.append_assoc]
    rfl
  refine ⟨t, ?_, htfin, ?_, hth.trans hvh, ?_⟩
  · rw [hashCommands, execAll_cons (exec_init 0 s), execAll_append hu, execAll_cons hv, ht]
  · rw [hterr, hverr, huerr]
    rfl
  · rw [htsent, hquiet, hvh, messageDigest]

end Sys2Proof.Machine
end

section
/-! PROOFS. The fields of a command word as numbers (30_encoding.md R71 to R73), and that the bits a command ignores have
no effect. -/

namespace Sys2Proof.Machine

theorem opField_toNat (w : BitVec 10) : (opField w).toNat = w.toNat / 256 := by
  have := w.isLt
  rw [opField, BitVec.extractLsb'_toNat, Nat.shiftRight_eq_div_pow]
  omega

theorem opField_eq_of_toNat {w : BitVec 10} {op : BitVec 2} (h : w.toNat / 256 = op.toNat) : opField w = op :=
  BitVec.eq_of_toNat_eq ((opField_toNat w).trans h)

theorem dataField_eq_ofNat (w : BitVec 10) : dataField w = BitVec.ofNat 8 (w.toNat % 256) := by
  apply BitVec.eq_of_toNat_eq
  rw [dataField, BitVec.extractLsb'_toNat, Nat.shiftRight_zero, BitVec.toNat_ofNat, Nat.mod_mod]

theorem indexField_eq_ofNat (w : BitVec 10) : indexField w = BitVec.ofNat 4 (w.toNat % 16) := by
  apply BitVec.eq_of_toNat_eq
  rw [indexField, BitVec.extractLsb'_toNat, Nat.shiftRight_zero, BitVec.toNat_ofNat, Nat.mod_mod]

/-- A command word as a number (30 R71). -/
theorem cmdWord_eq_ofNat (op : BitVec 2) (data : BitVec 8) :
    cmdWord op data = BitVec.ofNat 10 (256 * op.toNat + data.toNat) := by
  have := op.isLt
  apply BitVec.eq_of_toNat_eq
  rw [cmdWord, toNat_append_octet, BitVec.toNat_ofNat]
  omega

/-- READ's `data` with no ignored bit set is the index (30 R73). -/
theorem toNat_zero_append_index (k : BitVec 4) : ((0 : BitVec 4) ++ k).toNat = k.toNat := by
  rw [BitVec.toNat_append]
  simp

/-- INIT, FINAL and READ do not read the bits they ignore (30 R73). -/
theorem exec_init_ignores (d d' : BitVec 8) (s : State) : exec (.init d) s = exec (.init d') s := rfl

theorem exec_final_ignores (d d' : BitVec 8) (s : State) : exec (.final d) s = exec (.final d') s := rfl

theorem exec_read_ignores (g g' k : BitVec 4) (s : State) : exec (.read g k) s = exec (.read g' k) s := rfl

/-- Settles O5: `op` selects the command, its operand is a field of the word, and no meaning reads the ignored bits. -/
theorem commandWordsRunByTheirFields : Obligations.CommandWordsRunByTheirFields := by
  intro w s
  have hrun : exec (decode (.cmd w)) s = exec (decodeCmd w) s := rfl
  rw [hrun]
  refine ⟨fun hop d => ?_, fun hop => ?_, fun hop d => ?_, fun hop g => ?_, rfl, rfl, fun x => ?_, fun k => ?_⟩
  · rw [decodeCmd_op_zero (opField_eq_of_toNat hop), exec_init_ignores]
  · rw [decodeCmd_op_one (opField_eq_of_toNat hop), dataField_eq_ofNat]
  · rw [decodeCmd_op_two (opField_eq_of_toNat hop), exec_final_ignores]
  · rw [decodeCmd_op_three (opField_eq_of_toNat hop), indexField_eq_ofNat, exec_read_ignores]
  · rw [encode, cmdWord_eq_ofNat]
    rfl
  · rw [encode, cmdWord_eq_ofNat, toNat_zero_append_index]
    rfl

end Sys2Proof.Machine
end

section
/-! PROOFS. How an instruction can stop: at a dead cell in a message word that a compression reads, and in no other way
(30_encoding.md R78, 92 D12). -/

namespace Sys2Proof.Machine

/-- The answer is a next state or the fault of a dead cell. -/
def StopsOnlyAtDeadCell (o : Answer) : Prop :=
  (∃ u, o = .next u) ∨ ∃ j : BitVec 4, o = .fault (.deadCell (4 * j.toNat))

theorem stopsOnlyAtDeadCell_next (u : State) : StopsOnlyAtDeadCell (.next u) := .inl ⟨u, rfl⟩

theorem StopsOnlyAtDeadCell.andThen {o : Answer} {f : State → Answer} (h : StopsOnlyAtDeadCell o)
    (hf : ∀ u, StopsOnlyAtDeadCell (f u)) : StopsOnlyAtDeadCell (andThen o f) := by
  rcases h with ⟨u, rfl⟩ | ⟨j, rfl⟩
  · exact hf u
  · exact .inr ⟨j, rfl⟩

theorem padAndCompress_stops (s : State) : StopsOnlyAtDeadCell (padAndCompress s) := by
  rw [padAndCompress]
  split
  · exact compress_stops _
  · exact StopsOnlyAtDeadCell.andThen (compress_stops _) fun _ => compress_stops _

theorem exec_update_stops (x : BitVec 8) (s : State) : StopsOnlyAtDeadCell (exec (.update x) s) := by
  cases hfin : s.fin with
  | true => exact .inl ⟨_, exec_update_rejected x hfin⟩
  | false =>
    by_cases hlen : s.len = 63
    · rw [exec_update_block x hfin hlen]
      exact StopsOnlyAtDeadCell.andThen (compress_stops _) fun _ => stopsOnlyAtDeadCell_next _
    · exact .inl ⟨_, exec_update_stored x hfin hlen⟩

theorem exec_final_stops (d : BitVec 8) (s : State) : StopsOnlyAtDeadCell (exec (.final d) s) := by
  cases hfin : s.fin with
  | true => exact .inl ⟨_, exec_final_rejected d hfin⟩
  | false =>
    rw [exec_final_accepted d hfin]
    exact (padAndCompress_stops s).andThen fun _ => stopsOnlyAtDeadCell_next _

theorem exec_stops (i : Instr) (s : State) : StopsOnlyAtDeadCell (exec i s) := by
  rcases command_or_encode_sel i with ⟨d, rfl⟩ | ⟨x, rfl⟩ | ⟨d, rfl⟩ | ⟨g, k, rfl⟩ | ⟨t, hsel⟩
  · exact .inl ⟨_, exec_init d s⟩
  · exact exec_update_stops x s
  · exact exec_final_stops d s
  · exact .inl (exec_read_answers g k s)
  · rw [exec_of_encode_sel hsel]
    exact stepAt_stops

/-- The commands that can fault are those that compress: UPDATE of the 64th octet and an accepted FINAL. -/
theorem compresses_of_exec_fault {i : Instr} {s : State} {f : Fault} (hi : i.isCommand = true)
    (h : exec i s = .fault f) :
    ((∃ x, i = .update x) ∧ s.fin = false ∧ s.len = 63) ∨ ((∃ d, i = .final d) ∧ s.fin = false) := by
  rcases command_cases hi with ⟨d, rfl⟩ | ⟨x, rfl⟩ | ⟨d, rfl⟩ | ⟨g, k, rfl⟩
  · exact nomatch (exec_init d s).symm.trans h
  · cases hfin : s.fin with
    | true => exact nomatch (exec_update_rejected x hfin).symm.trans h
    | false =>
      by_cases hlen : s.len = 63
      · exact .inl ⟨⟨x, rfl⟩, rfl, hlen⟩
      · exact nomatch (exec_update_stored x hfin hlen).symm.trans h
  · cases hfin : s.fin with
    | true => exact nomatch (exec_final_rejected d hfin).symm.trans h
    | false => exact .inr ⟨⟨d, rfl⟩, rfl⟩
  · obtain ⟨t, ht⟩ := exec_read_answers g k s
    exact nomatch ht.symm.trans h

/-- Settles O36: the answers are next states and dead-cell faults, and a command that faults is one that compresses. -/
theorem noInstructionIsRefused : Obligations.NoInstructionIsRefused := by
  intro i s
  rcases exec_stops i s with ⟨u, hu⟩ | ⟨j, hj⟩
  · exact ⟨fun r h => (nomatch hu.symm.trans h), fun f h => (nomatch hu.symm.trans h)⟩
  · refine ⟨fun r h => (nomatch hj.symm.trans h), fun f h => ?_⟩
    cases hj.symm.trans h
    refine ⟨⟨j, rfl⟩, ?_⟩
    cases hi : i.isCommand with
    | false => exact .inl rfl
    | true =>
      rcases compresses_of_exec_fault hi h with ⟨hupdate, hfin, hlen⟩ | hfinal
      · exact .inr (.inl ⟨hupdate, hfin, congrArg BitVec.toNat hlen⟩)
      · exact .inr (.inr hfinal)

end Sys2Proof.Machine
end

section
/-! PROOFS. What one step is, by what stands first at the ports (30_encoding.md R70, R76, R77; 60 R231; 70 R240, R241,
R243), and what each event leaves at the response port and in the record of samples. -/

namespace Sys2Proof.Machine

theorem isReset_of_not_offersReset {s : State} (h : ¬ OffersReset s) (e : HostEvent) (rest : List HostEvent)
    (hp : s.port = e :: rest) : e.isReset = false :=
  Bool.eq_false_iff.2 fun he => h ⟨e, rest, hp, he⟩

/-- A reset acts in a ready engine and in a running one (70 R240, R241). -/
theorem step_offersReset {s : State} {e : HostEvent} {rest : List HostEvent} (hp : s.port = e :: rest)
    (he : e.isReset = true) : step s = .next (resetBy { s with port := rest }) := by
  cases hr : s.running with
  | false => exact step_reset hr hp he
  | true => exact step_running_reset hr hp he

/-- Settles O1: the cases of a step, each by its own lemma. -/
theorem stepRunsWhatComesNext : Obligations.StepRunsWhatComesNext := fun _ =>
  ⟨fun _ _ hr hp => step_cmd hr hp, fun hr hreset => step_running hr (isReset_of_not_offersReset hreset),
    fun _ _ hp he => step_offersReset hp he, fun _ hr hp => step_transfer hr hp, fun _ hr hp => step_sample hr hp,
    fun hr hp => step_idle hr hp⟩

theorem digestO_open {s : State} (hfin : s.fin = false) : digestO s = Config.freeDigest s.draws := by
  rw [digestO, hfin, if_neg Bool.false_ne_true]

/-- Settles O48: the value shown is `digest_o`, the Digest's vector while Finalized and the free value while Open. -/
theorem samplingShowsTheStatusOutputs : Obligations.SamplingShowsTheStatusOutputs := by
  intro s rest hr hp
  exact ⟨digestO { s with port := rest }, step_sample hr hp, fun hfin => digestO_finalized hfin,
    fun hfin => digestO_open hfin⟩

theorem isCommand_decodeCmd (w : BitVec 10) : (decodeCmd w).isCommand = true := by
  rcases decodeCmd_cases w with ⟨d, hw⟩ | ⟨x, hw⟩ | ⟨d, hw⟩ | ⟨g, k, hw⟩ <;> rw [hw] <;> rfl

/-- The command a ready engine accepts leaves its one response word present (30 R75, R76). -/
theorem step_cmd_responded {s t : State} {w : BitVec 10} {rest : List HostEvent} (hr : s.running = false)
    (hp : s.port = .cmd w :: rest) (h : step s = .next t) : ∃ err rdata, Responded s t err rdata := by
  rw [step_cmd hr hp] at h
  obtain ⟨err, rdata, hresponded, -⟩ := exec_command_responded (isCommand_decodeCmd w) h
  exact ⟨err, rdata, hresponded⟩

/-- Without a command there is no response, and only a reset or a transfer takes away the word that is present
(30 R70, 70 R241). -/
theorem step_response_of_no_command {s t : State} (hr : s.running = false) (hnone : ∀ op, ¬ OffersOp s op)
    (h : step s = .next t) :
    t.sent = s.sent ∧
      (t.rsp = s.rsp ∨ t.rsp = none ∧ (OffersReset s ∨ ∃ rest, s.port = .transfer :: rest)) := by
  rcases step_ready_cases hr h with
    ⟨-, rfl⟩ | ⟨w, rest, hp, -⟩ | ⟨e, rest, hp, he, rfl⟩ | ⟨rest, hp, rfl⟩ | ⟨rest, -, rfl⟩
  · exact ⟨rfl, .inl rfl⟩
  · exact absurd ⟨w, rest, hp, rfl⟩ (hnone (opField w))
  · exact ⟨rfl, .inr ⟨rfl, .inl ⟨e, rest, hp, he⟩⟩⟩
  · exact ⟨rfl, .inr ⟨rfl, .inr ⟨rest, hp⟩⟩⟩
  · exact ⟨rfl, .inl rfl⟩

theorem rspValid_of_none {s : State} (h : s.rsp = none) : rspValid s = false := by
  rw [rspValid, h, Option.isSome_none]

/-- Settles O49: a command answers with its word, a transfer and a reset leave none present, and nothing else writes the
response port. -/
theorem responseIsPresentForOneTransfer : Obligations.ResponseIsPresentForOneTransfer := by
  intro s t hr h
  refine ⟨fun w rest hp => ?_, fun rest hp => ?_, ?_, fun hnone => ?_, fun hnone hreset htransfer => ?_⟩
  · obtain ⟨err, rdata, hresponded⟩ := step_cmd_responded hr hp h
    exact ⟨responseWord err rdata, hresponded⟩
  · rw [step_transfer hr hp] at h
    cases h
    exact ⟨rfl, rfl⟩
  · rintro ⟨e, rest, hp, he⟩
    rw [step_offersReset hp he] at h
    cases h
    exact ⟨rfl, rfl⟩
  · obtain ⟨hsent, hkept | ⟨htaken, -⟩⟩ := step_response_of_no_command hr hnone h
    · exact ⟨hsent, fun _ => hkept⟩
    · exact ⟨hsent, fun hvalid => absurd (hvalid.symm.trans (rspValid_of_none htaken)) Bool.noConfusion⟩
  · obtain ⟨-, hkept | ⟨-, hoffer | ⟨rest, hp⟩⟩⟩ := step_response_of_no_command hr hnone h
    · exact hkept
    · exact absurd hoffer hreset
    · exact absurd hp (htransfer rest)

end Sys2Proof.Machine
end

section
/-! PROOFS. The constant tables of 40_constant_tables.md sections 2 to 4: what R92, R94 and R95 give for a value of T,
and the step that the tables give for it. -/

namespace Sys2Proof.Machine

/-- The round less one is t div 16 (40 R95). -/
theorem roundOf_toNat (t : BitVec 6) : (roundOf t).toNat = t.toNat / 16 := by
  rw [roundOf, BitVec.extractLsb'_toNat, Nat.shiftRight_eq_div_pow]
  omega

/-- A table with one entry a round, read at t div 16, selects as the model does, by the round. -/
theorem getD_round {α : Type} (x₀ x₁ x₂ x₃ y : α) (t : BitVec 6) :
    [x₀, x₁, x₂, x₃].getD (t.toNat / 16) y =
      if roundOf t = 0 then x₀ else if roundOf t = 1 then x₁ else if roundOf t = 2 then x₂ else x₃ := by
  rw [← roundOf_toNat]
  rcases bitVec_two_cases (roundOf t) with h | h | h | h <;> rw [h] <;> rfl

/-- The word index by the formulae of R94, reduced modulo 16. -/
theorem widx_eq_ofNat (t : BitVec 6) : widx t = BitVec.ofNat 4
    ([t.toNat, 5 * t.toNat + 1, 3 * t.toNat + 5, 7 * t.toNat].getD (t.toNat / 16) 0 % 16) := by
  have hmod (j : Nat) : BitVec.ofNat 4 (j % 16) = BitVec.ofNat 4 j := BitVec.eq_of_toNat_eq (Nat.mod_mod j 16)
  rw [hmod, getD_round]
  simp only [widx, apply_ite (BitVec.ofNat 4)]

/-- The round function by the list of R95. -/
theorem fnOf_apply_eq_getD (t : BitVec 6) :
    (fnOf t).apply = [roundF, roundG, roundH, roundI].getD (t.toNat / 16) roundF := by
  rw [getD_round]
  simp only [fnOf, apply_ite RoundFn.apply]
  rfl

/-- The shift amount by the flat table of R92: four entries a round, one for each t mod 4. -/
theorem shiftOf_eq_getD (t : BitVec 6) :
    shiftOf t = ([7, 12, 17, 22, 5, 9, 14, 20, 4, 11, 16, 23, 6, 10, 15, 21] : List Nat).getD
      (4 * (t.toNat / 16) + t.toNat % 4) 0 := by
  revert t
  decide

/-- Settles O26: the selected instruction is the step of the model's tables, whose entries for T are those written out;
the last step goes on to the add-back. -/
theorem everyStepFollowsTheTables : Obligations.EveryStepFollowsTheTables := by
  intro t s m j f n hm
  have hword : readWord s.buf (widx t) = some m := (widx_eq_ofNat t).symm ▸ hm
  have hwork : roundStep (fnOf t).apply m (constOf t) (shiftOf t) s.work = stepResult f m (constOf t) n s.work := by
    rw [fnOf_apply_eq_getD, shiftOf_eq_getD]
    rfl
  rw [decode, exec_decodeSel]
  by_cases hlast : t = 63
  · subst hlast
    exact ⟨_, stepAt_last_of_word hword, hwork, fun hlt => absurd hlt (by decide), fun _ => rfl⟩
  · exact ⟨_, stepAt_of_word hlast hword, hwork, fun _ => rfl, fun h => absurd (BitVec.eq_of_toNat_eq h) hlast⟩

end Sys2Proof.Machine
end

section
/-! PROOFS. A compression taken one machine step at a time (41_block_compressor.md R100, R108, R109): with no reset at the
ports the machine's steps are the compressor's, and 64 of them are Compress. -/

namespace Sys2Proof.Machine

/-- A running engine with no reset at its ports runs STEP T, the step of the tables (30 R77). -/
theorem step_running_eq_stepAt {s : State} (hr : s.running = true) (hreset : ¬ OffersReset s) :
    step s = stepAt s.t s := by
  rw [step_running hr (isReset_of_not_offersReset hreset), exec_decodeSel]

/-- A step before the last leaves a compression in progress and counts T up (R102, R109). -/
theorem stepAt_goes_on {t : BitVec 6} (ht : t ≠ 63) {s u : State} (h : stepAt t s = .next u) :
    u.running = s.running ∧ u.t = t + 1 := by
  rw [stepAt, if_neg ht] at h
  obtain ⟨m, -, rfl⟩ := runStep_eq_next h
  exact ⟨rfl, rfl⟩

/-- Up to the end of a compression, steps of the machine are steps of the compressor: only STEP63 ends it, and the ports
stay as they are. -/
theorem stepTimes_eq_runSteps (n : Nat) {s : State} (hr : s.running = true) (hreset : ¬ OffersReset s)
    (hn : s.t.toNat + n ≤ 64) : stepTimes n s = runSteps n s := by
  induction n generalizing s with
  | zero => rfl
  | succ n ih =>
    rw [stepTimes, runSteps, step_running_eq_stepAt hr hreset]
    rcases stepAt_stops (t := s.t) (s := s) with ⟨u, hu⟩ | ⟨j, hj⟩
    · rw [hu, andThen_next, andThen_next]
      by_cases hlast : s.t = 63
      · have ht : s.t.toNat = 63 := congrArg BitVec.toNat hlast
        obtain rfl : n = 0 := by omega
        rfl
      · obtain ⟨hrunning, ht⟩ := stepAt_goes_on hlast hu
        have hwaits : ¬ OffersReset u := by rwa [OffersReset, (stepAt_frame hu).port]
        exact ih (hrunning.trans hr) hwaits (by rw [ht]; bv_omega)
    · rw [hj]
      rfl

/-- Settles O28: from the load on, the 64 machine steps are Compress, which on a full block is the pure function. -/
theorem sixtyFourStepsAreCompress : Obligations.SixtyFourStepsAreCompress := by
  intro s blk hblk hbuf hreset
  have hsteps : stepTimes 64 (loadWork s) = compress s := stepTimes_eq_runSteps 64 rfl hreset (Nat.le_refl 64)
  exact ⟨_, _, hsteps.trans (compress_block hblk hbuf)⟩

end Sys2Proof.Machine
end

section
/-! PROOFS. The round functions (41_block_compressor.md R103 to R106): what each selects bit by bit, and their corner
cases. G is F with its arguments turned, so that its laws are those of F. -/

namespace Sys2Proof.Machine

theorem roundF_getLsbD (b c d : Word) {i : Nat} (hi : i < 32) :
    (roundF b c d).getLsbD i = if b.getLsbD i then c.getLsbD i else d.getLsbD i := by
  rw [roundF, BitVec.getLsbD_or, BitVec.getLsbD_and, BitVec.getLsbD_and, BitVec.getLsbD_not, decide_eq_true hi]
  cases b.getLsbD i <;> simp

theorem roundG_eq_roundF (b c d : Word) : roundG b c d = roundF d b c := by
  rw [roundG, roundF, and32, BitVec.and_comm b, and32, BitVec.and_comm c]

theorem roundG_getLsbD (b c d : Word) {i : Nat} (hi : i < 32) :
    (roundG b c d).getLsbD i = if d.getLsbD i then b.getLsbD i else c.getLsbD i := by
  rw [roundG_eq_roundF, roundF_getLsbD d b c hi]

theorem roundH_getLsbD (b c d : Word) (i : Nat) :
    (roundH b c d).getLsbD i = ((b.getLsbD i != c.getLsbD i) != d.getLsbD i) := by
  rw [roundH, BitVec.getLsbD_xor, BitVec.getLsbD_xor]

theorem roundI_getLsbD (b c d : Word) {i : Nat} (hi : i < 32) :
    (roundI b c d).getLsbD i = (c.getLsbD i != (b.getLsbD i || !d.getLsbD i)) := by
  rw [roundI, BitVec.getLsbD_xor, BitVec.getLsbD_or, BitVec.getLsbD_not, decide_eq_true hi, Bool.true_and]

/-! ### Corner cases, read off the bit laws -/

theorem getLsbD_zeros (i : Nat) : (0 : Word).getLsbD i = false := BitVec.getLsbD_zero

theorem getLsbD_ones {i : Nat} (hi : i < 32) : (0xFFFFFFFF : Word).getLsbD i = true :=
  (BitVec.getLsbD_allOnes (v := 32)).trans (decide_eq_true hi)

theorem getLsbD_not_word (x : Word) {i : Nat} (hi : i < 32) : (~~~x).getLsbD i = !x.getLsbD i := by
  rw [BitVec.getLsbD_not, decide_eq_true hi, Bool.true_and]

theorem roundF_zeros (c d : Word) : roundF 0 c d = d := by
  refine BitVec.eq_of_getLsbD_eq fun i hi => ?_
  rw [roundF_getLsbD 0 c d hi, getLsbD_zeros, if_neg Bool.false_ne_true]

theorem roundF_ones (c d : Word) : roundF 0xFFFFFFFF c d = c := by
  refine BitVec.eq_of_getLsbD_eq fun i hi => ?_
  rw [roundF_getLsbD _ c d hi, getLsbD_ones hi, if_pos rfl]

theorem roundF_same (b c : Word) : roundF b c c = c := by
  refine BitVec.eq_of_getLsbD_eq fun i hi => ?_
  rw [roundF_getLsbD b c c hi, ite_self]

theorem roundH_same (b d : Word) : roundH b b d = d := by
  refine BitVec.eq_of_getLsbD_eq fun i _ => ?_
  rw [roundH_getLsbD, bne_self_eq_false, Bool.false_bne]

theorem roundI_ones_left (c d : Word) : roundI 0xFFFFFFFF c d = ~~~c := by
  refine BitVec.eq_of_getLsbD_eq fun i hi => ?_
  rw [roundI_getLsbD _ c d hi, getLsbD_ones hi, getLsbD_not_word c hi, Bool.true_or, Bool.bne_true]

theorem roundI_zeros_right (b c : Word) : roundI b c 0 = ~~~c := by
  refine BitVec.eq_of_getLsbD_eq fun i hi => ?_
  rw [roundI_getLsbD b c 0 hi, getLsbD_zeros, getLsbD_not_word c hi, Bool.not_false, Bool.or_true, Bool.bne_true]

theorem roundI_zeros_ones (c : Word) : roundI 0 c 0xFFFFFFFF = c := by
  refine BitVec.eq_of_getLsbD_eq fun i hi => ?_
  rw [roundI_getLsbD 0 c _ hi, getLsbD_zeros, getLsbD_ones hi, Bool.not_true, Bool.or_false, Bool.bne_false]

/-- Settles O29: the bit laws, the corner cases, and the examples by evaluation. -/
theorem roundFunctionsSelectBitByBit : Obligations.RoundFunctionsSelectBitByBit := by
  refine ⟨fun b c d i hi => ?_, fun b c d => ?_, rfl, rfl, rfl, rfl⟩
  · exact ⟨roundF_getLsbD b c d hi, roundG_getLsbD b c d hi, roundH_getLsbD b c d i, roundI_getLsbD b c d hi⟩
  · exact ⟨roundG_eq_roundF b c d, roundF_zeros c d, roundF_ones c d, roundF_same b c,
      (roundG_eq_roundF b c 0).trans (roundF_zeros b c), (roundG_eq_roundF b c _).trans (roundF_ones b c),
      roundH_same b d, rfl, roundI_zeros_right b c, roundI_ones_left c d, roundI_zeros_ones c⟩

end Sys2Proof.Machine
end

section
/-! PROOFS. The rules of the 64 steps (41_block_compressor.md R110 to R173): each instruction is the one shared step with
the function, message word, constant, rotation and next T that its rule writes out, and the shared step takes the working
registers by the pseudocode. STEP63 goes on to the add-back. -/

namespace Sys2Proof.Machine

/-- An instruction that T = t selects, and that is the shared step with its rule's operands, follows that rule. -/
theorem stepTakes_of_runStep {i : Instr} {t : BitVec 6} {f : Word → Word → Word → Word} {j : BitVec 4} {k : Word}
    {n : Nat} (hsel : decode (.sel t) = i) (hexec : exec i = runStep f j k n (t + 1)) : StepTakes i t f j k n := by
  refine ⟨hsel, fun s m hm => ?_⟩
  rw [hexec, runStep_of_word hm]
  rfl

/-- STEP63 on a readable message word: the step of R173 and the add-back of R107, which ends the compression (R109). -/
theorem exec_step63_of_word {s : State} {m : Word} (hm : readWord s.buf 9 = some m) :
    exec .step63 s = .next (addBack { s with work := stepResult roundI m 0xEB86D391 21 s.work, t := 63 }) :=
  stepAt_last_of_word hm

/-- Settles O18: the rules of STEP0 to STEP7, and their examples by evaluation. -/
theorem steps0To7FollowTheirRules : Obligations.Steps0To7FollowTheirRules := by
  iterate 7 refine ⟨stepTakes_of_runStep rfl rfl, ⟨rfl, rfl, rfl, rfl⟩, ?_⟩
  exact ⟨stepTakes_of_runStep rfl rfl, rfl, rfl, rfl, rfl⟩

/-- Settles O19: the rules of STEP8 to STEP15, and their examples by evaluation. -/
theorem steps8To15FollowTheirRules : Obligations.Steps8To15FollowTheirRules := by
  iterate 7 refine ⟨stepTakes_of_runStep rfl rfl, ⟨rfl, rfl, rfl, rfl⟩, ?_⟩
  exact ⟨stepTakes_of_runStep rfl rfl, rfl, rfl, rfl, rfl⟩

/-- Settles O20: the rules of STEP16 to STEP23, and their examples by evaluation. -/
theorem steps16To23FollowTheirRules : Obligations.Steps16To23FollowTheirRules := by
  iterate 7 refine ⟨stepTakes_of_runStep rfl rfl, ⟨rfl, rfl, rfl, rfl⟩, ?_⟩
  exact ⟨stepTakes_of_runStep rfl rfl, rfl, rfl, rfl, rfl⟩

/-- Settles O21: the rules of STEP24 to STEP31, and their examples by evaluation. -/
theorem steps24To31FollowTheirRules : Obligations.Steps24To31FollowTheirRules := by
  iterate 7 refine ⟨stepTakes_of_runStep rfl rfl, ⟨rfl, rfl, rfl, rfl⟩, ?_⟩
  exact ⟨stepTakes_of_runStep rfl rfl, rfl, rfl, rfl, rfl⟩

/-- Settles O22: the rules of STEP32 to STEP39, and their examples by evaluation. -/
theorem steps32To39FollowTheirRules : Obligations.Steps32To39FollowTheirRules := by
  iterate 7 refine ⟨stepTakes_of_runStep rfl rfl, ⟨rfl, rfl, rfl, rfl⟩, ?_⟩
  exact ⟨stepTakes_of_runStep rfl rfl, rfl, rfl, rfl, rfl⟩

/-- Settles O23: the rules of STEP40 to STEP47, and their examples by evaluation. -/
theorem steps40To47FollowTheirRules : Obligations.Steps40To47FollowTheirRules := by
  iterate 7 refine ⟨stepTakes_of_runStep rfl rfl, ⟨rfl, rfl, rfl, rfl⟩, ?_⟩
  exact ⟨stepTakes_of_runStep rfl rfl, rfl, rfl, rfl, rfl⟩

/-- Settles O24: the rules of STEP48 to STEP55, and their examples by evaluation. -/
theorem steps48To55FollowTheirRules : Obligations.Steps48To55FollowTheirRules := by
  iterate 7 refine ⟨stepTakes_of_runStep rfl rfl, ⟨rfl, rfl, rfl, rfl⟩, ?_⟩
  exact ⟨stepTakes_of_runStep rfl rfl, rfl, rfl, rfl, rfl⟩

/-- Settles O25: the rules of STEP56 to STEP62 and of STEP63 with its add-back, and their examples by evaluation. -/
theorem steps56To63FollowTheirRules : Obligations.Steps56To63FollowTheirRules := by
  iterate 7 refine ⟨stepTakes_of_runStep rfl rfl, ⟨rfl, rfl, rfl, rfl⟩, ?_⟩
  exact ⟨⟨rfl, fun s m hm => ⟨_, exec_step63_of_word hm⟩⟩, rfl, rfl, rfl, rfl⟩

end Sys2Proof.Machine
end

section
/-! PROOFS. The padder (42_padder.md): the number of zero octets by the two ranges of LEN, the length of PAD, and FINAL
and the block count of a padded message, both read off the padded message's last octets. -/

namespace Sys2Proof.Machine

/-- z in the non-negative sense: 55 - LEN, or 119 - LEN when no room is left for the count (42 R181). -/
theorem padZeros_cases (len : BitVec 6) :
    (len.toNat ≤ 55 ∧ padZeros len + len.toNat = 55) ∨
    (56 ≤ len.toNat ∧ padZeros len + len.toNat = 119) := by
  have hlen := len.isLt
  rw [padZeros]
  omega

theorem padBytes_eq_map_digits (len : BitVec 6) (n : BitVec 64) :
    padBytes len n = 0x80 :: List.replicate (padZeros len) 0 ++
      ((List.range 8).map fun i => BitVec.ofNat 8 (n.toNat / 256 ^ i)) := by
  rw [padBytes, bytesLE64_eq_map_digits]

/-- Settles O43: FINAL leaves the last chaining value in H and keeps BITCNT, which counts the message held. -/
theorem finalHashesTheMessage : Obligations.FinalHashesTheMessage := by
  intro m d s hholds
  obtain ⟨t, ht, hfin, hlen, hh, hcount, huerr⟩ := hholds.final d
  obtain ⟨-, -, -, -, -, hbits⟩ := hholds
  exact ⟨t, ht, hfin, hlen, hh, congrArg digestBytes hh, hcount.trans hbits, huerr⟩

/-- Settles O11, by the two ranges of LEN: PAD is z octets and 9 more, and z is fixed in each range. -/
theorem padSequence : Obligations.PadSequence := by
  intro len n
  refine ⟨padZeros len, padBytes_eq_map_digits len n, ?_⟩
  rw [padBytes_length]
  rcases padZeros_cases len with ⟨hone, hz⟩ | ⟨htwo, hz⟩
  · omega
  · omega

/-- Settles O45: behind the complete blocks of the message stand the one or two blocks that FINAL compresses. -/
theorem paddedMessageIsWholeBlocks : Obligations.PaddedMessageIsWholeBlocks := by
  intro m
  refine ⟨?_, List.take_left⟩
  rw [padded_length, lastOctets_length, ← Nat.mul_add]

end Sys2Proof.Machine
end

section
/-! PROOFS. UPDATE's rule (43_input_accumulator.md R190, R191, R194): the equation of the branch that completes a block
on 63 pending octets, where Compress is the pure function. -/

namespace Sys2Proof.Machine

/-- The state that the completed block is answered in, field by field, whatever Compress left in H, a, b, c, d and T:
with these as variables nothing looks into `compressBlock`. -/
theorem respond_emptyBuffer_storeOctet (x : Byte) (s : State) (h w : Quad) (t : BitVec 6) :
    respond false 0 (emptyBuffer { storeOctet x s with h := h, work := w, t := t, running := false }) =
      { s with
        h := h
        buf := []
        bitcnt := s.bitcnt + 8
        len := 0
        work := w
        t := t
        running := false
        rsp := some 0x000
        sent := s.sent ++ [0x000] } := rfl

/-- UPDATE of the 64th octet: Compress on the full block, and an empty buffer after it (43 R191). -/
theorem exec_update_full_block (x : BitVec 8) {s : State} {p : List Byte} (hfin : s.fin = false)
    (hlen : s.len = 63) (hp : p.length = 63) (hbuf : s.buf = cellsFrom 0 p) :
    exec (.update x) s = .next (respond false 0 (emptyBuffer { storeOctet x s with
      h := compressBlock s.h (p ++ [x])
      work := stepsFrom (blockWord (p ++ [x])) s.h 64
      t := 63
      running := false })) := by
  have hblock : (p ++ [x]).length = 64 := by rw [List.length_append, hp, List.length_singleton]
  have hcells : (storeOctet x s).buf = cellsFrom 0 (p ++ [x]) := storeOctet_cells hbuf (by rw [hp, hlen]; rfl) x
  rw [exec_update_block x hfin hlen, compress_block hblock hcells, andThen_next, storeOctet_h]

/-- Settles O9: the rejection, the stored octet and the completed block each by its equation, and the example as a
stored octet. -/
theorem updateFollowsItsRule : Obligations.UpdateFollowsItsRule := by
  intro x s
  refine ⟨fun hfin => ?_, fun hfin hlen => ?_, fun p hfin hlen hp hbuf => ?_, ?_⟩
  · exact exec_update_rejected x hfin
  · have hincomplete : s.len ≠ 63 := by bv_omega
    exact exec_update_stored x hfin hincomplete
  · have hcomplete : s.len = 63 := BitVec.eq_of_toNat_eq hlen
    rw [exec_update_full_block x hfin hcomplete hp hbuf, respond_emptyBuffer_storeOctet]
    exact ⟨_, _, rfl⟩
  · exact ⟨_, exec_update_stored 0x48 rfl (by decide), rfl, rfl, rfl, rfl, rfl⟩

end Sys2Proof.Machine
end

section
/-! PROOFS. The rules of INIT, FINAL and READ (44_digest_engine.md R201 to R206): the equation of FINAL's accepted
branch on pending octets, the octet that READ answers, and the Digest of a Finalized engine. -/

namespace Sys2Proof.Machine

/-- Settles O6: INIT has one branch, whatever the phase. -/
theorem initReinitialises : Obligations.InitReinitialises := fun d s => exec_init d s

/-! ### FINAL -/

/-- The state that FINAL answers, field by field: what the padder leaves alone, what FINAL writes, and H, a, b, c, d and
T as the padder left them (44 R202). -/
theorem respond_finalise_of_frame {s u : State} (hr : u.running = false)
    (hframe : SameOutside { s with buf := u.buf } u) :
    respond false 0 (finalise u) =
      { s with
        h := u.h
        buf := []
        len := 0
        fin := true
        work := u.work
        t := u.t
        running := false
        rsp := some 0x000
        sent := s.sent ++ [0x000] } := by
  obtain ⟨-, -, hbitcnt, -, huerr, -, hport, hsent, hseen, hdraws⟩ := hframe
  simp only [respond, finalise, noCells, hr, hbitcnt, huerr, hport, hsent, hseen, hdraws]
  rfl

/-- FINAL of the empty message: one Compress of its padding alone (44 R202). -/
theorem messageState_nil : messageState [] = ⟨0xD98C1DD4, 0x04B2008F, 0x980980E9, 0x7E42F8EC⟩ := by
  decide +kernel

/-- Settles O12: the rejection and the accepted branch each by its equation, with the padder's contract in the second;
at reset the engine holds the empty message. -/
theorem finalFollowsItsRule : Obligations.FinalFollowsItsRule := by
  intro d s
  refine ⟨fun hfin => ?_, fun p hfin hp hbuf => ?_, ?_⟩
  · exact exec_final_rejected d hfin
  · obtain ⟨u, hu, huh, hr, hframe⟩ := padAndCompress_eq hbuf hp
    rw [exec_final_accepted d hfin, hu, andThen_next, respond_finalise_of_frame hr hframe, huh]
    exact ⟨_, _, rfl⟩
  · obtain ⟨t, ht, hfin, -, hh, -⟩ := holds_reset.final d
    rw [messageState_nil] at hh
    refine ⟨t, ht, hfin, hh, ?_⟩
    rw [hh]
    decide

/-! ### READ -/

/-- DG(k) as a digit of its word (20 R53). -/
theorem digestOctet_eq_ofNat (h : Quad) (k : BitVec 4) : digestOctet h k =
    BitVec.ofNat 8 (([h.a, h.b, h.c, h.d].getD (k.toNat / 4) 0).toNat / 2 ^ (8 * (k.toNat % 4))) :=
  BitVec.eq_of_toNat_eq (digestOctet_toNat h k)

/-- READ in a Finalized engine writes nothing but its response, DG(k) without error (44 R204). -/
theorem exec_read_octet (g k : BitVec 4) {s : State} (hfin : s.fin = true) :
    exec (.read g k) s = .next { s with
      rsp := some ((digestOctet s.h k).setWidth 9)
      sent := s.sent ++ [(digestOctet s.h k).setWidth 9] } := by
  rw [exec_read_accepted g k hfin, ← responseWord_ok]
  rfl

/-- Settles O13: the two phases by their equations, and each octet named read off DG(k). -/
theorem readFollowsItsRule : Obligations.ReadFollowsItsRule := by
  intro g k s
  refine ⟨fun hfin => ?_, fun hfin => ?_, fun hfin => ?_, fun hfin => ?_, fun hfin hh => ?_⟩
  · exact exec_read_rejected g k hfin
  · rw [exec_read_octet g k hfin, digestOctet_eq_ofNat]
  · exact ⟨_, exec_read_octet g 0 hfin, rfl⟩
  · exact ⟨_, exec_read_octet g 15 hfin, rfl⟩
  · have hreads : ∀ i, ∃ t, exec (.read g i) s = .next t ∧ t.rsp = some ((digestOctet s.h i).setWidth 9) :=
      fun i => ⟨_, exec_read_octet g i hfin, rfl⟩
    rw [hh] at hreads
    exact ⟨hreads 0, hreads 1, hreads 4, hreads 15⟩

/-! ### The Digest while Finalized -/

/-- Settles O40: besides INIT and reset only an accepted UPDATE or FINAL writes H, and both need FIN = 0; FIN falls by
INIT and reset alone, and while it stands `digest_o` shows H. -/
theorem digestIsImmutableOnceProduced : Obligations.DigestIsImmutableOnceProduced := by
  intro s t hr hfin h hinit hreset
  have hopen : s.fin ≠ false := by simp [hfin]
  have hh : t.h = s.h := chainingValueIsWrittenOnlyAsStated s t hr h hinit hreset
    (fun ⟨_, hf, _⟩ => hopen hf) (fun ⟨_, hf⟩ => hopen hf)
  obtain ⟨-, hfalls, -⟩ := finChangesOnlyAsStated s t hr h
  have htfin : t.fin = true := (Bool.not_eq_false _).mp fun hf => ((hfalls hfin).1 hf).elim hinit hreset
  refine ⟨hh, htfin, ?_⟩
  rw [digestO_finalized htfin, digestO_finalized hfin, hh]

end Sys2Proof.Machine
end

section
/-! PROOFS. The one exception, UsageError (60_exceptions.md R221, R222): the err bit of the response a command gives, and
the state a rejected command answers. -/

namespace Sys2Proof.Machine

/-- `rsp[8]` is the cause code (30 R75). -/
theorem err_responseWord (err : Bool) (rdata : Byte) : (responseWord err rdata)[8] = err :=
  (BitVec.getElem_append (x := BitVec.ofBool err) (y := rdata) (by decide)).trans BitVec.getElem_ofBool_zero

/-- The port shows a response with err = 1 exactly when the command answered with that bit (30 R75). -/
theorem Responded.showsErr_iff {s t : State} {err : Bool} {rdata : Byte} (h : Responded s t err rdata) :
    (∃ r, t.rsp = some r ∧ r.getLsbD 8 = true) ↔ err = true := by
  obtain ⟨hrsp, -⟩ := h
  simp [hrsp, err_responseWord]

/-- Settles O15: the err bit of each command's response is FIN for UPDATE and FINAL, its complement for READ and 0 for
INIT. -/
theorem usageErrorExactlyByPhase : Obligations.UsageErrorExactlyByPhase := by
  intro i s t hi h
  rcases command_cases hi with ⟨d, rfl⟩ | ⟨x, rfl⟩ | ⟨d, rfl⟩ | ⟨g, k, rfl⟩
  · rw [(exec_init_responded h).showsErr_iff]
    simp
  · rw [(exec_update_responded h).showsErr_iff]
    simp
  · rw [(exec_final_responded h).showsErr_iff]
    simp
  · rw [(exec_read_responded h).showsErr_iff]
    simp

/-- Settles O16: each of the three rejections by its equation, and what `raiseUsageError` writes is UERR, the response
and its entry in the record. -/
theorem rejectedCommandChangesOnlyUerr : Obligations.RejectedCommandChangesOnlyUerr := by
  rintro s _ (⟨⟨x, rfl⟩, hfin⟩ | ⟨⟨d, rfl⟩, hfin⟩ | ⟨⟨g, k, rfl⟩, hfin⟩)
  · exact exec_update_rejected x hfin
  · exact exec_final_rejected d hfin
  · exact exec_read_rejected g k hfin

end Sys2Proof.Machine
end

section
/-! PROOFS. Reset at any time (70_reset_and_hazards.md R240, R241): the step of an engine that is offered a reset, running
or not, and the fields of the state it leaves. -/

namespace Sys2Proof.Machine

/-- Settles O8: the step is `resetBy` in a ready engine and in a running one, and each field is read off its lemma. -/
theorem resetReplacesTheState : Obligations.ResetReplacesTheState := by
  intro s e rest hp he
  have hstep : step s = .next (resetBy { s with port := rest }) := step_offersReset hp he
  exact ⟨_, hstep, resetBy_h _, resetBy_len _, resetBy_buf _, resetBy_bitcnt _, resetBy_fin _, resetBy_uerr _,
    resetBy_running _, resetBy_rsp _, resetBy_sent _, resetBy_port _⟩

end Sys2Proof.Machine
end

section
/-! PROOFS. The dead cells (92_eei_decisions.md D12): whether a single step faults is decided by its message word. -/

namespace Sys2Proof.Machine

/-- A step whose message word is readable answers a next state, the last one with its add-back too (R102, R107). -/
theorem stepAt_answers_of_word {t : BitVec 6} {s : State} {m : Word} (hm : readWord s.buf (widx t) = some m) :
    ∃ u, stepAt t s = .next u := by
  by_cases hlast : t = 63
  · subst hlast
    exact ⟨_, stepAt_last_of_word hm⟩
  · exact ⟨_, stepAt_of_word hlast hm⟩

/-- Settles O27: the selected instruction is the step of the tables, which faults on an unreadable word and answers on a
readable one. -/
theorem deadCellsStopAStep : Obligations.DeadCellsStopAStep := by
  intro t s
  rw [decode, exec_decodeSel]
  refine ⟨stepAt_of_dead, fun hread => ?_⟩
  obtain ⟨m, hm⟩ := Option.ne_none_iff_exists'.1 hread
  exact stepAt_answers_of_word hm

end Sys2Proof.Machine
end
